-- ==== Sys2Proof/Word.lean ====
section
/-! DEFINITION. The byte in which the SC16's records travel. Quantities the manual counts or measures (seconds, watts,
levels, tenths of a degree) are plain numbers, not words; only what crosses a port is a byte. -/

namespace Sys2Proof

/-- One byte of a frame, a record or a snapshot (12, "Payloads"). -/
abbrev Byte := BitVec 8

/-- The levels of the 64 input lines at one sample, line 0 in bit 0 (R2): a set bit is HIGH. -/
abbrev LineLevels := BitVec 64

end Sys2Proof
end

