-- ==== Sys2Proof/Config.lean ====
section
/-! DEFINITION. The figures every SC16 has (00, Key figures) and the values the manual leaves open, each an opaque
constant of which nothing can be proved. -/

namespace Sys2Proof.Config

/-- The 16 zones (00, Key figures). -/
def zones : Nat := 16
/-- The 48 doors. -/
def doors : Nat := 48
/-- The 64 input lines. -/
def lines : Nat := 64
/-- The 24 measurement channels. -/
def channels : Nat := 24
/-- The 40 switched outputs. -/
def outputs : Nat := 40
/-- The 16 contexts. -/
def contexts : Nat := 16
/-- The 48 override locks. -/
def locks : Nat := 48
/-- The 672 calendar slots. -/
def slots : Nat := 672
/-- The zone-entry pool shared by all contexts (R54). -/
def pool : Nat := 192
/-- The length of each event queue (R176). -/
def eventQueue : Nat := 24
/-- The length of the look-ahead queue (R61). -/
def lookAhead : Nat := 4
/-- The longest payload of a frame (R173). -/
def maxPayload : Nat := 200
/-- The bytes of a snapshot (R178). -/
def snapshotBytes : Nat := 552
/-- The bytes of a full snapshot page (R179). -/
def pageBytes : Nat := 180

/-- The elapsed-time base is counted in units of 10 ms, the interval of the line sample, the shortest interval the
manual times (R2). Seconds are compared as 100 of these units. -/
def unitsPerSecond : Nat := 100

/-- FREE VALUE. The silicon revision IDENT reports (R180): the manual gives the field and no value. -/
opaque siliconRevision : Byte

/-- FREE VALUE. The minutes of a purge asked for by a PURGE line or PURGE command in the second between a handover's
cancel and the zone's next evaluation, when the context the zone record still names has been erased meanwhile: R123
reads "the purge duration of the context named by the zone record" and an EMPTY context has none. -/
opaque unstatedPurgeMinutes : Nat → Nat

end Sys2Proof.Config
end

