-- ==== Sys2Proof/Syntax.lean ====
section
/-! DEFINITION. The commands of the SC16: one constructor for each row of spec/opcode_table.json, in the table's order.

A request row carries the port its frame arrived on and the frame's whole payload (12, "Payloads"), so that the length,
reference and range checks are all the machine's. A timed row carries the item whose timer is due. A sampling row, and
the two rows that make the initial take, carry what stands at the pins at that moment (R2, R22). -/

namespace Sys2Proof

/-- The two ports, and the party behind each (11, "The authority record"). -/
inductive Port where
  | supervisor | panel
  deriving DecidableEq, Repr

/-- Why a frame is discarded without reply (R173). -/
inductive DiscardCause where
  /-- its length byte is above 200 -/
  | length
  /-- its CRC differs from the one computed -/
  | crc
  /-- it arrives while the part is sending on the same port -/
  | sending
  deriving DecidableEq, Repr

/-- The two beacon pattern generators (R155). -/
inductive BeaconPattern where
  | slow | fast
  deriving DecidableEq, Repr

/-- A command: one constructor per row of the opcode table. -/
inductive Instr where
  /-- IDENT (R180). Request that returns the vendor text, part text, silicon revision and capacity table. -/
  | ident (port : Port) (payload : List Byte)
  /-- STATUS (R180). Request that returns run mode, fire latch, authority, port states, clock validity, SAVE busy, lost count and flags. -/
  | status (port : Port) (payload : List Byte)
  /-- CONFIG_READ (R175). Request that returns one configuration record of a class and item, with the live state that class names. -/
  | configRead (port : Port) (payload : List Byte)
  /-- CONFIG_WRITE_SITE (R175). CONFIG WRITE of the SITE record, with the checks and clamping of every site field. -/
  | configWriteSite (port : Port) (payload : List Byte)
  /-- CONFIG_WRITE_ZONE (R34). CONFIG WRITE of a zone record; structural changes are refused while RUNNING and tuning values are clamped. -/
  | configWriteZone (port : Port) (payload : List Byte)
  /-- CONFIG_WRITE_DOOR (R11). CONFIG WRITE of a door's line and zone, with checks for references and duplicate lines. -/
  | configWriteDoor (port : Port) (payload : List Byte)
  /-- CONFIG_WRITE_LINE (R1). CONFIG WRITE of a line record, taking effect at the line's next sample. -/
  | configWriteLine (port : Port) (payload : List Byte)
  /-- CONFIG_WRITE_CHANNEL (R20). CONFIG WRITE of a measurement channel record, with role limits and clamping of the hold time. -/
  | configWriteChannel (port : Port) (payload : List Byte)
  /-- CONFIG_WRITE_OUTPUT (R147). CONFIG WRITE of a switched output record; defaults are taken on a change of function and unit and stage counts are recomputed. -/
  | configWriteOutput (port : Port) (payload : List Byte)
  /-- CONTEXT_READ (R59). Request that returns one context's state, queued and fallback marks, pool use and record. -/
  | contextRead (port : Port) (payload : List Byte)
  /-- CONTEXT_WRITE (R56). Writes a whole context record into a non-active context, using entries from the pool. -/
  | contextWrite (port : Port) (payload : List Byte)
  /-- CONTEXT_ERASE (R57). Makes a context that is not active, not queued and not the fallback EMPTY, and returns its entries to the pool. -/
  | contextErase (port : Port) (payload : List Byte)
  /-- CONTEXT_COPY (R58). Copies a source context's record into a non-active destination context. -/
  | contextCopy (port : Port) (payload : List Byte)
  /-- CALENDAR_READ (R53). Request that returns a run of slot values, H and the look-ahead queue. -/
  | calendarRead (port : Port) (payload : List Byte)
  /-- CALENDAR_WRITE (R52). Stores a run of slot values and replies DEFERRED for the slots that lie inside the edit horizon. -/
  | calendarWrite (port : Port) (payload : List Byte)
  /-- FORCE_SHIFT (R67). Hands a named context to the handover as a new target, outside the calendar. -/
  | forceShift (port : Port) (payload : List Byte)
  /-- SET_CLOCK (R66). Sets the site clock VALID; while RUNNING it also flushes the queue, looks back, may retarget, refills the queue and closes the window short. -/
  | setClock (port : Port) (payload : List Byte)
  /-- START (R183). Validates the configuration and enters RUNNING with the START effects of every block. -/
  | start (port : Port) (payload : List Byte)
  /-- STOP (R183). Enters STOPPED: contexts become STORED, the window closes, locks are released, zones are reset and loads go off. -/
  | stop (port : Port) (payload : List Byte)
  /-- RESTART (R182). Replies OK and then reinitialises like power-on, keeping the clock, the ports and the snapshots. -/
  | restart (port : Port) (payload : List Byte) (levels : LineLevels) (codes : List (BitVec 12))
  /-- SAVE (R181). Captures the settings image, replies OK, sets SAVE busy and begins writing the image. -/
  | save (port : Port) (payload : List Byte)
  /-- CLAIM (R160). Asks authority for the sender's party: it is granted, made pending or answered HELD. -/
  | claim (port : Port) (payload : List Byte)
  /-- YIELD (R161). The holder hands authority to the pending claimant. -/
  | yield (port : Port) (payload : List Byte)
  /-- DECLINE (R161). The holder refuses the pending claim and keeps authority. -/
  | decline (port : Port) (payload : List Byte)
  /-- OVERRIDE_SET (R166). Places or replaces an override lock owned by the sender's port. -/
  | overrideSet (port : Port) (payload : List Byte)
  /-- OVERRIDE_RELEASE (R167). The owner empties its own override lock, without an event. -/
  | overrideRelease (port : Port) (payload : List Byte)
  /-- OVERRIDE_BREAK (R167). The holder empties any override lock, raising OVERRIDE_RELEASED with reason BREAK. -/
  | overrideBreak (port : Port) (payload : List Byte)
  /-- PURGE (R123). Command that makes a purge request for an enabled zone while RUNNING. -/
  | purge (port : Port) (payload : List Byte)
  /-- LINES_READ (R6). Returns the raw, debounced, pending, mask and enable line sets. -/
  | linesRead (port : Port) (payload : List Byte)
  /-- LINES_CLEAR (R7). Clears the named pending flags and returns the pending set; a LEVEL line that is still ACTIVE pends again. -/
  | linesClear (port : Port) (payload : List Byte)
  /-- LINES_MASK (R8). Replaces the report mask of all 64 lines. -/
  | linesMask (port : Port) (payload : List Byte)
  /-- EVENTS (R176). Returns and removes up to 8 of the oldest event records of the sender's queue and resets its lost count. -/
  | events (port : Port) (payload : List Byte)
  /-- SNAPSHOT (R179). Returns a page of the sender's held snapshot; page 0 may exchange NEWEST with that held buffer. -/
  | snapshot (port : Port) (payload : List Byte)
  /-- NOTICES (R177). Turns notices on the Panel Port ON or OFF. -/
  | notices (port : Port) (payload : List Byte)
  /-- FIRE_RESET (R17). Panel command that clears the fire latch when every FIRE line is INACTIVE. -/
  | fireReset (port : Port) (payload : List Byte)
  /-- OUTPUT_SET (R156). Gives a BEACON or SPARE output its commanded value. -/
  | outputSet (port : Port) (payload : List Byte)
  /-- OUTPUT_TEST (R157). Drives one output ON for 1 to 60 s while STOPPED and outside fire mode. -/
  | outputTest (port : Port) (payload : List Byte)
  /-- CALIBRATE (R28). Replaces a channel's two calibration points and empties its history. -/
  | calibrate (port : Port) (payload : List Byte)
  /-- UNKNOWN_KIND (R174). A request whose kind is not in the table, or has bit 7 set, is refused with UNKNOWN_KIND. -/
  | unknownKind (port : Port) (kind : Byte) (payload : List Byte)
  /-- FRAME_DISCARD (R173). A frame with a length above 200, a CRC mismatch or arriving during a send is discarded without reply. -/
  | frameDiscard (port : Port) (cause : DiscardCause)
  /-- FRAME_BYTE_TIMEOUT (R173). 20 bit-times without a byte before a frame is complete abandon the frame. -/
  | frameByteTimeout (port : Port)
  /-- FRAME_NOT_ADDRESSED (R173). A valid Supervisor Port frame for another station is not taken, but still keeps the port alive. -/
  | frameNotAddressed
  /-- BAUD_SEARCH_DWELL (R172). After a 1 s dwell without a frame the searching port moves to the next rate. -/
  | baudSearchDwell (port : Port)
  /-- SILENCE_TIME_EXPIRY (R172). An ALIVE port reaches its silence time and becomes SILENT, acting on authority, locks and notices. -/
  | silenceTimeExpiry (port : Port)
  /-- NOTICE (R177). An event record appended to the panel queue while notices are ON is sent as a notice frame once the port is free. -/
  | notice
  /-- POWER_ON (R182). Loads the image or factory defaults, initialises every block STOPPED and autostarts if set. -/
  | powerOn (levels : LineLevels) (codes : List (BitVec 12))
  /-- SAVE_WRITE_COMPLETE (R181). The image write finishes, its completion marker is written, SAVE busy clears and SAVE_DONE is queued. -/
  | saveWriteComplete
  /-- SNAPSHOT_COMPOSITION (R178). Every P seconds the snapshot timer composes a snapshot into FILL and exchanges it with NEWEST. -/
  | snapshotComposition
  /-- DEBOUNCED_CHANGE (R3). A line's logical level has differed for its debounce time, so its debounced state changes and is delivered to its trigger and its role. -/
  | debouncedChange (line : Fin 64)
  /-- HELD_OPEN_CHECK (R13). At each whole second open doors count open seconds, and a door open for its zone's threshold becomes HELD_OPEN. -/
  | heldOpenCheck
  /-- CHANNEL_SAMPLE (R22). Each second every channel is sampled, judged valid or invalid, converted, averaged and its quality updated. -/
  | channelSample (codes : List (BitVec 12))
  /-- CHANNEL_HOLD_EXPIRY (R26). A HELD channel's run of invalid samples reaches its hold time and the channel becomes LOST. -/
  | channelHoldExpiry (channel : Fin 24)
  /-- ZONE_EVALUATION (R36). Each second while RUNNING each enabled zone runs occupancy, target resolution, lighting, heating, ventilation and arrival checks. -/
  | zoneEvaluation
  /-- OCCUPANCY_HOLD_EXPIRY (R40). The occupancy hold of an OCCUPIED zone without activity runs out and the zone becomes GRACE or VACANT. -/
  | occupancyHoldExpiry (zone : Fin 16)
  /-- GRACE_EXPIRY (R40). The grace time of a GRACE zone without activity runs out and the zone becomes VACANT. -/
  | graceExpiry (zone : Fin 16)
  /-- DOWN_DELAY_EXPIRY (R121). The down-delay since stage since has run with the reading below the step-down level, so the air stage falls one stage. -/
  | downDelayExpiry (zone : Fin 16)
  /-- PURGE_END (R123). A zone's purge end is reached and purging becomes no. -/
  | purgeEnd (zone : Fin 16)
  /-- HANDOVER_RAMP_END (R75). Handover elapsed reaches 60 × R: the lighting ramp ends and LIGHT participants arrive. -/
  | handoverRampEnd
  /-- LATE_TEST (R79). Handover elapsed reaches 60 × (R + G) and the handover completes late with a late mask. -/
  | lateTest
  /-- LOOK_AHEAD_READ (R62). At each slot boundary the slot H ahead is read and an entry appended where it changes the programme. -/
  | lookAheadRead
  /-- DUE_EVENT (R63). The queue head comes due: it is removed, its preheat ends, its lead-0 purge starts and its context goes to the handover. -/
  | dueEvent
  /-- PURGE_LEAD_REACHED (R63). A queue entry's time to due reaches its purge lead and purge requests go to the listed zones. -/
  | purgeLeadReached (slot : Fin 672)
  /-- PREHEAT_LEAD_REACHED (R64). A queue entry's time to due reaches its preheat lead and its preheat starts running. -/
  | preheatLeadReached (slot : Fin 672)
  /-- ALLOCATION_ROUND (R133). Every P seconds the budget is formed and tier 0 then tiers 1 to 3 are granted. -/
  | allocationRound
  /-- METER_SILENCE_EXPIRY (R137). At a round the meter silence time has passed with controlled load drawing, so the meter becomes LOST. -/
  | meterSilenceExpiry
  /-- WINDOW_END (R132). The demand window reaches its end: the last-window record is written, the rotation pointers advance and a new window opens. -/
  | windowEnd
  /-- CONTROLLED_ENERGY_SECOND (R153). Each second while RUNNING the watts of loads that are on and the lighting watts are added to the controlled watt-seconds. -/
  | controlledEnergySecond
  /-- MIN_ON_END (R150). A MIN_ON hold runs out; an unrequested grant lapses and the output goes OFF into MIN_OFF. -/
  | minOnEnd (output : Fin 40)
  /-- MIN_OFF_END (R150). A MIN_OFF hold runs out and the output is again open to tier 1 to 3 grants. -/
  | minOffEnd (output : Fin 40)
  /-- OUTPUT_TEST_END (R157). A test's end time is reached and the output returns to its own drive. -/
  | outputTestEnd (output : Fin 40)
  /-- CLAIM_TIMEOUT (R162). An unanswered claim reaches the yield timeout and the claimant becomes holder. -/
  | claimTimeout
  /-- OVERRIDE_EXPIRY (R168). A lock reaches 60 × expiry seconds since it was placed and becomes EMPTY. -/
  | overrideExpiry (lock : Fin 48)
  /-- LINE_SAMPLE (R3). At each 10 ms sample every line's raw level is recorded, and its debounce timer is started or discarded. Any line configuration write (role, enable, polarity, LEVEL mode) takes effect at that sample. -/
  | lineSample (levels : LineLevels)
  /-- BEACON_PATTERN_HALF (R155). A SLOW or FAST pattern generator ends its on half or off half, and every beacon showing that pattern toggles its pin. -/
  | beaconPatternHalf (pattern : BeaconPattern)
  /-- SEND_COMPLETE (R173). The part finishes sending a reply or notice frame on a port, which ends the half-duplex sending state so that received frames are no longer discarded. -/
  | sendComplete (port : Port)
  deriving DecidableEq, Repr

end Sys2Proof
end

