-- ==== Sys2Proof/Machine/Types.lean ====
section
/-! DEFINITION. The records of the SC16's blocks: configuration records, live records, and the records that cross the
ports. Names and fields are the manual's. Times are stamps of the elapsed-time base in units of 10 ms; temperatures are
tenths of a degree; every other quantity is in the unit its chapter gives. -/

namespace Sys2Proof.Machine

/-- The run mode (R183). -/
inductive RunMode where
  | stopped | running
  deriving DecidableEq, Repr

/-! ### Configuration records (12, "Configuration records") -/

/-- A line's role (01, Line configuration). -/
inductive LineRole where
  | door | occupancy | fire | purge | shed | meter | spare
  deriving DecidableEq, Repr

/-- A line's polarity (R2). -/
inductive Polarity where
  | activeHigh | activeLow
  deriving DecidableEq, Repr

/-- A line's trigger mode (R4). -/
inductive TriggerMode where
  | level | toActive | toInactive | both
  deriving DecidableEq, Repr

/-- A line's configuration record (01, Line configuration); `debounce` is in units of 10 ms. -/
structure LineConfig where
  role : LineRole
  enable : Bool
  zone : Nat
  polarity : Polarity
  trigger : TriggerMode
  debounce : Nat
  masked : Bool
  deriving DecidableEq, Repr

/-- A door's configuration record (01, Doors): `none` is NONE. -/
structure DoorConfig where
  line : Option Nat
  zone : Nat
  deriving DecidableEq, Repr

/-- A channel's role (02, Channel configuration). -/
inductive ChannelRole where
  | zoneTemp | outdoorTemp | air | daylight | unused
  deriving DecidableEq, Repr

/-- A channel's configuration record with its two calibration points (02). -/
structure ChannelConfig where
  role : ChannelRole
  zone : Nat
  codeLo : Nat
  valueLo : Int
  codeHi : Nat
  valueHi : Int
  hold : Nat
  deriving DecidableEq, Repr

/-- A zone's configuration record (03, Zone configuration). -/
structure ZoneConfig where
  enabled : Bool
  dimming : Option Nat
  floor : Nat
  doorLevel : Nat
  occHold : Nat
  graceTime : Nat
  dayFactor : Nat
  heldOpen : Nat
  heatBand : Nat
  debtStep : Nat
  debtDecay : Nat
  rated : Nat
  rampRate : Nat
  trimAllow : Nat
  trimTier : Nat
  idleSetpoint : Nat
  idleLevel : Nat
  deriving DecidableEq, Repr

/-- A switched output's function (10, Output configuration). -/
inductive OutputFunction where
  | heater | curtain | fan | lightContactor | beacon | spare
  deriving DecidableEq, Repr

/-- A switched output's reference: nothing, a zone with its unit or stage (0 where none), or a door. -/
inductive OutputRef where
  | nothing
  | zone (z : Nat) (unit : Nat)
  | door (d : Nat)
  deriving DecidableEq, Repr

/-- A switched output's configuration record (10). -/
structure OutputConfig where
  function : OutputFunction
  ref : OutputRef
  watts : Nat
  tier : Nat
  minOn : Nat
  minOff : Nat
  deriving DecidableEq, Repr

/-- The fire fan action (08, Site ventilation values). -/
inductive FireFan where
  | off | exhaust
  deriving DecidableEq, Repr

/-- The SITE record: every site configuration field, in the order of 12, "Configuration records". -/
structure SiteConfig where
  designOutdoor : Int
  clockTrim : Int
  fallback : Nat
  lead : Nat
  dayFull : Nat
  stoppedLevel : Nat
  l1 : Nat
  l2 : Nat
  l3 : Nat
  la : Nat
  downDelay : Nat
  creditDoors : Nat
  lostStage : Nat
  fireFan : FireFan
  purgeCold : Int
  pulseWeight : Nat
  windowLen : Nat
  period : Nat
  ceiling : Nat
  shedPct : Nat
  meterSilence : Nat
  assumedBase : Nat
  yieldTimeout : Nat
  supSilence : Nat
  panSilence : Nat
  station : Nat
  autostart : Bool
  deriving DecidableEq, Repr

/-- A zone entry of a context (R54). -/
structure ZoneEntry where
  zone : Nat
  occLevel : Nat
  vacLevel : Nat
  setpoint : Nat
  setback : Nat
  heat : Bool
  ventMin : Nat
  deriving DecidableEq, Repr

/-- A context record: its site fields and its zone entries in ascending zone order (R54). -/
structure Context where
  cap : Nat
  ramp : Nat
  grace : Nat
  purgeLead : Nat
  purgeDur : Nat
  preheatLead : Nat
  entries : List ZoneEntry
  deriving DecidableEq, Repr

/-- Everything the stored settings image holds (R181): the part works from one such record and keeps another. A
calendar slot is `none` for HOLD (R51); a context is `none` for EMPTY (R55). -/
structure Settings where
  site : SiteConfig
  zones : List ZoneConfig
  doors : List DoorConfig
  lines : List LineConfig
  channels : List ChannelConfig
  outputs : List OutputConfig
  calendar : List (Option Nat)
  contexts : List (Option Context)
  deriving DecidableEq, Repr

/-! ### Line Input Unit -/

/-- What stands at the pins: the levels of the lines and the codes of the channels, as last presented. -/
structure Pins where
  levels : LineLevels
  codes : List (BitVec 12)
  deriving DecidableEq, Repr

/-- A line record (R2). `timer` is the start of the debounce timer while it runs. `inForce` is the configuration the
line's last sample took (R1): a write is in `Settings` at once and here from the next sample. `trigger` is the trigger
mode by which the line's trigger is present: a written mode from the next debounced change on, but LEVEL from the sample
that takes it (R1). -/
structure LineRec where
  raw : Bool
  active : Bool
  timer : Option Nat
  pending : Bool
  inForce : LineConfig
  trigger : TriggerMode
  deriving DecidableEq, Repr

/-- A door's state (R12). -/
inductive DoorState where
  | closed | opened | heldOpen | disabled
  deriving DecidableEq, Repr

/-- A door record (R12). -/
structure DoorRec where
  state : DoorState
  since : Nat
  opens : Nat
  openSeconds : Nat
  deriving DecidableEq, Repr

/-! ### Measurement Unit -/

/-- A channel's quality (R21). -/
inductive Quality where
  | good | held | lost
  deriving DecidableEq, Repr

/-- A channel record (R21). `fresh` says that the next sample is an initial take (R20). -/
structure ChannelRec where
  code : Nat
  history : List Int
  value : Int
  quality : Quality
  invalidSince : Nat
  fresh : Bool
  deriving DecidableEq, Repr

/-! ### Zone Table -/

/-- A zone's occupancy state (R35). -/
inductive Occupancy where
  | vacant | occupied | grace
  deriving DecidableEq, Repr

/-- A zone's programme source with its context (R35, R43). -/
inductive Source where
  | idle
  | current (c : Nat)
  | incoming (c : Nat)
  deriving DecidableEq, Repr

/-- The occupancy fields of a zone record (R35). -/
structure OccFields where
  state : Occupancy
  holdStart : Nat
  graceStart : Nat
  activity : Bool
  rise : Bool
  deriving DecidableEq, Repr

/-- The programme fields of a zone record (R35, R43 to R45). -/
structure ProgFields where
  source : Source
  occLevel : Nat
  vacLevel : Nat
  setpoint : Nat
  setback : Nat
  heat : Bool
  ventMin : Nat
  preheat : Option Nat
  deriving DecidableEq, Repr

/-- The lighting fields of a zone record (R88), with the trim watts last granted to the zone's LIGHT load (R143), which
the Load Allocator writes. `rated` and `trimTier` are the tuning values in force: the rated watts and the trim tier of the
request stand as the last lighting step took them (R87, R93). The contactor demand is on while `present` is above 0
(R98). -/
structure LightFields where
  target : Nat
  floorPart : Nat
  untrim : Nat
  tier0 : Nat
  trim : Nat
  granted : Nat
  present : Nat
  grantedTrim : Nat
  rated : Nat
  trimTier : Nat
  deriving DecidableEq, Repr

/-- The heating fields of a zone record (R101); the curtain requests stand at the curtains' outputs. -/
structure HeatFields where
  setpoint : Int
  stage : Nat
  cold : Bool
  debt : Nat
  debtStage : Nat
  units : Nat
  frost : Bool
  deriving DecidableEq, Repr

/-- The ventilation fields of a zone record (R118). `purgeEnd` is the purge end while purging. -/
structure VentFields where
  air : Nat
  since : Nat
  alarm : Bool
  credited : Nat
  purgeEnd : Option Nat
  nonAir : Nat
  stages : Nat
  deriving DecidableEq, Repr

/-- The three participants of a zone in a handover, and the functions of an override lock (R74, R165). -/
inductive ZoneFunction where
  | light | heat | vent
  deriving DecidableEq, Repr

/-- The arrival marks of a zone record (R46). -/
structure Marks where
  light : Bool
  heat : Bool
  vent : Bool
  deriving DecidableEq, Repr

/-- A zone record (R35). -/
structure ZoneRec where
  occ : OccFields
  prog : ProgFields
  light : LightFields
  heat : HeatFields
  vent : VentFields
  marks : Marks
  deriving DecidableEq, Repr

/-! ### Shift Calendar Unit -/

/-- The site clock (R49). `phase` is the microseconds of the elapsed-time base run since the last site second was
counted, and `secondLen` the microseconds the running site second takes. -/
structure SiteClock where
  minute : Nat
  second : Nat
  valid : Bool
  phase : Nat
  secondLen : Nat
  deriving DecidableEq, Repr

/-- What started or last retargeted a handover (R70). -/
inductive Cause where
  | due | force | clock
  deriving DecidableEq, Repr

/-- The handover record while IN_PROGRESS (R70); `startLevels` holds P0 of each zone. -/
structure Handover where
  outgoing : Nat
  incoming : Nat
  cause : Cause
  elapsed : Nat
  ramp : Nat
  grace : Nat
  target : Nat
  count : Nat
  startLevels : List Nat
  deriving DecidableEq, Repr

/-- The programme in force: no active context, one CURRENT, or a handover with its OUTGOING and INCOMING (R55, R70). -/
inductive Programme where
  | none
  | current (c : Nat)
  | handover (h : Handover)
  deriving DecidableEq, Repr

/-- An entry of the look-ahead queue (R61). Its due minute is 15 × slot. -/
structure QueueEntry where
  slot : Nat
  context : Nat
  purgeStarted : Bool
  preheating : Bool
  deriving DecidableEq, Repr

/-! ### Load Allocator -/

/-- The time base of a demand window (R131). -/
inductive TimeBase where
  | site | elapsed
  deriving DecidableEq, Repr

/-- The window record (R131). `start` is a second of the week on the SITE base, a stamp on the ELAPSED base. E_used is
`pulses` × the pulse weight. -/
structure Window where
  base : TimeBase
  start : Nat
  len : Nat
  pulses : Nat
  target : Nat
  overRaised : Bool
  deriving DecidableEq, Repr

/-- The last-window record (R132). -/
structure LastWindow where
  used : Nat
  target : Nat
  exceeded : Bool
  len : Nat
  ran : Nat
  short : Bool
  deriving DecidableEq, Repr

/-- The allocation record of the latest round (R145). -/
structure AllocRecord where
  target : Nat
  used : Nat
  allow : Nat
  measured : Nat
  cavg : Nat
  uEst : Nat
  budget : Nat
  tier0 : Nat
  short1 : Bool
  short2 : Bool
  short3 : Bool
  meterLost : Bool
  shed : Bool
  deriving DecidableEq, Repr

/-- The Load Allocator's state (R146). -/
structure Alloc where
  window : Option Window
  last : LastWindow
  rot1 : Nat
  rot2 : Nat
  rot3 : Nat
  nextRound : Option Nat
  pulses : Nat
  wattSeconds : Nat
  uEst : Nat
  meterLost : Bool
  lastPulse : Option Nat
  record : AllocRecord
  deriving DecidableEq, Repr

/-! ### Output Unit -/

/-- The Load Allocator's grant of a load output (R148). -/
inductive Grant where
  | none | granted | tier0
  deriving DecidableEq, Repr

/-- The running hold of a load output (R148). -/
inductive Hold where
  | none | minOn | minOff
  deriving DecidableEq, Repr

/-- A forcing that holds a load output off (R148). -/
inductive Forced where
  | none | fire | stop
  deriving DecidableEq, Repr

/-- An output record (R148) with the request its load-list entry holds (R138), `none` where not requested. `drive` is a
load output's own drive; the pin is a view (`State.pinOn`). -/
structure OutputRec where
  drive : Bool
  request : Option Nat
  grant : Grant
  hold : Hold
  lastOn : Option Nat
  lastOff : Option Nat
  forced : Forced
  commanded : Bool
  testEnd : Option Nat
  deriving DecidableEq, Repr

/-! ### Authority Unit -/

/-- A pending claim (R159). -/
structure Claim where
  claimant : Port
  stamp : Nat
  deriving DecidableEq, Repr

/-- The authority record (R159). -/
structure Authority where
  holder : Option Port
  claim : Option Claim
  deriving DecidableEq, Repr

/-- A FULL override lock (R165); `expiry` is in minutes, 0 for none. -/
structure Lock where
  owner : Port
  value : Nat
  expiry : Nat
  placed : Nat
  atHandover : Bool
  deriving DecidableEq, Repr

/-! ### Link Unit -/

/-- A port's bit rate (R172). -/
inductive Rate where
  | r9600 | r19200 | r38400 | r115200
  deriving DecidableEq, Repr

/-- The event kinds (12, Event kinds), in code order from 01h. -/
inductive EventKind where
  | lineTrigger | doorHeldOpen | doorClosedAfterHeld | fireOn | fireReset | channelLost | channelRecovered
  | calendarEmptyContext | clockSet | handoverStart | handoverDone | handoverLate | handoverCancelled
  | airAlarm | airClear | windowClosed | overTarget | overrun | meterLost | meterRecovered
  | authorityChange | claimPending | claimDeclined | overrideReleased | portSilent | saveDone
  | settingsInvalid | startRefused
  deriving DecidableEq, Repr

/-- An event record (R176); `time` is `none` for NO_CLOCK. -/
structure EventRec where
  kind : EventKind
  time : Option (Nat × Nat)
  subject : Nat
  value : Nat
  deriving DecidableEq, Repr

/-- A frame the part has formed: a reply or a notice (R173, R177). -/
structure TxFrame where
  address : Nat
  kind : Nat
  payload : List Byte
  deriving DecidableEq, Repr

/-- A port record (R172) with the frames formed for the port in their order, the first of which is being sent while
`sending` (R173, R177), and the port's event queue and lost count (R176). `dwellStart` is the start of the running
dwell of the baud search. -/
structure PortRec where
  rate : Rate
  alive : Bool
  lastFrame : Option Nat
  dwellStart : Nat
  sending : Bool
  tx : List TxFrame
  events : List EventRec
  lost : Nat
  deriving DecidableEq, Repr

/-- The Link Unit's ports and the Panel Port's notices setting (R172). -/
structure Link where
  sup : PortRec
  pan : PortRec
  notices : Bool
  deriving DecidableEq, Repr

/-- A composed snapshot: its composition count and its 552 bytes (R178). -/
structure Snapshot where
  count : Nat
  bytes : List Byte
  deriving DecidableEq, Repr

/-- The four snapshot buffers by the role each holds, `none` where marked empty, with the composition count and the
snapshot timer (R178). -/
structure Snapshots where
  fill : Option Snapshot
  newest : Option Snapshot
  heldSup : Option Snapshot
  heldPan : Option Snapshot
  count : Nat
  nextAt : Nat
  deriving DecidableEq, Repr

/-- The stored settings image (R181): the image whose completion marker is complete, the image being written while SAVE
is busy, and the settings-image flag of STATUS (R180). -/
structure Store where
  image : Option Settings
  saving : Option Settings
  loaded : Bool
  deriving DecidableEq, Repr

/-- The reply status codes (12, Reply status codes). -/
inductive Status where
  | ok | clamped | deferred | pending | held | noClaim | noData
  | unknownKind | badLength | badReference | notHolder | notStopped | notRunning | inUse | poolFull
  | emptyContext | locked | busy | configError | fireActive | wrongPort
  deriving DecidableEq, Repr

/-- The kinds of request the part knows (12, Message kinds), in code order from 01h. -/
inductive RequestKind where
  | ident | status | configRead | configWrite | contextRead | contextWrite | contextErase | contextCopy
  | calendarRead | calendarWrite | forceShift | setClock | start | stop | restart | save | claim | yield | decline
  | overrideSet | overrideRelease | overrideBreak | purge | linesRead | linesClear | linesMask | events | snapshot
  | notices | fireReset | outputSet | outputTest | calibrate
  deriving DecidableEq, Repr

/-- Who may send a request kind (R164). -/
inductive Access where
  /-- gated by authority, either port -/
  | gated
  /-- open to either port, no authority -/
  | anyPort
  /-- Panel Port only, no authority -/
  | panelOnly
  deriving DecidableEq, Repr

/-- A reply's status and the data after it (R173, R174). -/
structure Reply where
  status : Status
  data : List Byte
  deriving DecidableEq, Repr

end Sys2Proof.Machine
end

