-- ==== Sys2Proof/Machine/Factory.lean ====
section
/-! DEFINITION. The factory defaults of every configuration record (01 to 12), the records a block starts from, and the
settings a part without a complete stored image works from (R182). -/

namespace Sys2Proof.Machine

/-- A line's factory record (01, Line configuration). -/
def factoryLine : LineConfig :=
  { role := .spare, enable := false, zone := 0, polarity := .activeHigh, trigger := .toActive, debounce := 5,
    masked := false }

/-- A door's factory record (01, Doors). -/
def factoryDoor : DoorConfig := { line := none, zone := 0 }

/-- A channel's factory record (02, Channel configuration). -/
def factoryChannel : ChannelConfig :=
  { role := .unused, zone := 0, codeLo := 0, valueLo := 0, codeHi := 4095, valueHi := 4095, hold := 300 }

/-- A zone's factory record (03, Zone configuration). -/
def factoryZone : ZoneConfig :=
  { enabled := false, dimming := none, floor := 20, doorLevel := 80, occHold := 15, graceTime := 120, dayFactor := 0,
    heldOpen := 300, heatBand := 10, debtStep := 120, debtDecay := 2, rated := 0, rampRate := 10, trimAllow := 20,
    trimTier := 3, idleSetpoint := 100, idleLevel := 0 }

/-- An output's factory record (10, Output configuration). -/
def factoryOutput : OutputConfig :=
  { function := .spare, ref := .nothing, watts := 0, tier := 1, minOn := 0, minOff := 0 }

/-- The factory SITE record: the defaults of R30, R50, R60, R61, 06, 08, 09, R159, R172, R173 and R181. -/
def factorySite : SiteConfig :=
  { designOutdoor := -200, clockTrim := 0, fallback := 0, lead := 2, dayFull := 1000, stoppedLevel := 100,
    l1 := 25, l2 := 50, l3 := 100, la := 150, downDelay := 120, creditDoors := 3, lostStage := 2, fireFan := .off,
    purgeCold := -50, pulseWeight := 10, windowLen := 900, period := 10, ceiling := 1000, shedPct := 30,
    meterSilence := 300, assumedBase := 100, yieldTimeout := 30, supSilence := 60, panSilence := 120, station := 1,
    autostart := false }

/-- The factory record of context 0 (R54). -/
def factoryContext : Context :=
  { cap := 1000, ramp := 15, grace := 10, purgeLead := 0, purgeDur := 10, preheatLead := 0,
    entries := [{ zone := 0, occLevel := 80, vacLevel := 20, setpoint := 150, setback := 0, heat := true,
                  ventMin := 0 }] }

/-- The factory settings: every zone disabled, an all-HOLD calendar (R51), context 0 its factory record and contexts
1 to 15 EMPTY (R54, R182). -/
def factorySettings : Settings :=
  { site := factorySite
    zones := List.replicate 16 factoryZone
    doors := List.replicate 48 factoryDoor
    lines := List.replicate 64 factoryLine
    channels := List.replicate 24 factoryChannel
    outputs := List.replicate 40 factoryOutput
    calendar := List.replicate 672 none
    contexts := some factoryContext :: List.replicate 15 none }

/-! ### The records blocks start from -/

/-- A line record before its first sample (R2). -/
def blankLine : LineRec :=
  { raw := false, active := false, timer := none, pending := false, inForce := factoryLine,
    trigger := factoryLine.trigger }

/-- A DISABLED door record with both counts 0 (R12). -/
def blankDoor : DoorRec := { state := .disabled, since := 0, opens := 0, openSeconds := 0 }

/-- The record of a channel whose role is NONE (R21). -/
def blankChannel : ChannelRec :=
  { code := 0, history := [], value := 0, quality := .lost, invalidSince := 0, fresh := false }

/-- No participant arrived (R35). -/
def noMarks : Marks := { light := false, heat := false, vent := false }

/-- The programme fields at a zone's idle defaults, the preheat setpoint absent (R44, R47). -/
def idleProg (c : ZoneConfig) : ProgFields :=
  { source := .idle, occLevel := c.idleLevel, vacLevel := c.idleLevel, setpoint := c.idleSetpoint, setback := 0,
    heat := true, ventMin := 0, preheat := none }

/-- The lighting fields while STOPPED, at present level `p` (R88, R99). -/
def stoppedLight (c : ZoneConfig) (p : Nat) : LightFields :=
  { target := 0, floorPart := 0, untrim := 0, tier0 := 0, trim := 0, granted := p, present := p, grantedTrim := 0,
    rated := c.rated, trimTier := c.trimTier }

/-- The heating fields while STOPPED (R101, R115). -/
def stoppedHeat (c : ZoneConfig) : HeatFields :=
  { setpoint := c.idleSetpoint, stage := 0, cold := false, debt := 0, debtStage := 0, units := 0, frost := false }

/-- The ventilation fields after power-on (R118). -/
def blankVent : VentFields :=
  { air := 0, since := 0, alarm := false, credited := 0, purgeEnd := none, nonAir := 0, stages := 0 }

/-- A zone record after power-on (R35), at present level `p` (R88). -/
def bootZone (c : ZoneConfig) (p : Nat) : ZoneRec :=
  { occ := { state := .vacant, holdStart := 0, graceStart := 0, activity := false, rise := false }
    prog := idleProg c
    light := stoppedLight c p
    heat := stoppedHeat c
    vent := blankVent
    marks := noMarks }

/-- An output record after power-on (R148). -/
def bootOutput : OutputRec :=
  { drive := false, request := none, grant := .none, hold := .none, lastOn := none, lastOff := none,
    forced := .stop, commanded := false, testEnd := none }

/-- The empty last-window record (R146). -/
def emptyLast : LastWindow := { used := 0, target := 0, exceeded := false, len := 0, ran := 0, short := false }

/-- The empty allocation record (R146). -/
def emptyRecord : AllocRecord :=
  { target := 0, used := 0, allow := 0, measured := 0, cavg := 0, uEst := 0, budget := 0, tier0 := 0,
    short1 := false, short2 := false, short3 := false, meterLost := false, shed := false }

/-- The Load Allocator after power-on and RESTART (R146). -/
def bootAlloc : Alloc :=
  { window := none, last := emptyLast, rot1 := 0, rot2 := 0, rot3 := 0, nextRound := none, pulses := 0,
    wattSeconds := 0, uEst := 0, meterLost := false, lastPulse := none, record := emptyRecord }

/-- A port after power-on: baud search at 9600, nothing to send, an empty queue (R172, R176). -/
def bootPort : PortRec :=
  { rate := .r9600, alive := false, lastFrame := none, dwellStart := 0, sending := false, tx := [], events := [],
    lost := 0 }

/-- The site clock after power-on: INVALID at 0:00 (R49), the first site second as long as `trim` makes it. -/
def bootClock (trim : Int) : SiteClock :=
  { minute := 0, second := 0, valid := false, phase := 0, secondLen := (1000000 - trim).toNat }

end Sys2Proof.Machine
end

