-- ==== Sys2Proof/Machine/State.lean ====
section
/-! DEFINITION. The state of the SC16, its reset, and the reasons a step may stop (none arises). -/

namespace Sys2Proof.Machine

/-- The whole part, block by block, with the queue of commands that wait for it. -/
structure State where
  /-- the elapsed-time base in units of 10 ms, running from power-on (01) -/
  now : Nat
  /-- what stands at the input pins -/
  pins : Pins
  /-- RUNNING or STOPPED (R183) -/
  runMode : RunMode
  /-- the working copy of everything the stored settings image holds (R181) -/
  settings : Settings
  /-- the stored settings image (R181) -/
  store : Store
  /-- the 64 line records (R2) -/
  lines : List LineRec
  /-- the 48 door records (R12) -/
  doors : List DoorRec
  /-- the fire mode latch (R15) -/
  fire : Bool
  /-- the activity mark of each zone (R9) -/
  activity : List Bool
  /-- the 24 channel records (R21) -/
  channels : List ChannelRec
  /-- the 16 zone records (R35) -/
  zones : List ZoneRec
  /-- the site clock (R49) -/
  clock : SiteClock
  /-- CURRENT, OUTGOING and INCOMING with the handover record (R55, R70) -/
  programme : Programme
  /-- the look-ahead queue, oldest first (R61) -/
  queue : List QueueEntry
  /-- MODEL'S OWN: the slot that was current when the calendar was last read: at a slot boundary's look-ahead read, at
  START, or at SET CLOCK while RUNNING (R52, R62, R66; log 29) -/
  readAt : Nat
  /-- the Load Allocator (R146) -/
  alloc : Alloc
  /-- the 40 output records (R148) -/
  outputs : List OutputRec
  /-- the SLOW generator is in its on half (R155) -/
  slowOn : Bool
  /-- the FAST generator is in its on half (R155) -/
  fastOn : Bool
  /-- the authority record (R159) -/
  authority : Authority
  /-- the 48 override locks, `none` for EMPTY, lock 3 × zone + function (R165) -/
  locks : List (Option Lock)
  /-- the two port records with their event queues (R172, R176) -/
  link : Link
  /-- the four snapshot buffers (R178) -/
  snaps : Snapshots
  /-- MODEL'S OWN: the commands waiting to be taken, first in first out -/
  pending : List Instr
  deriving DecidableEq, Repr

/-- Why a command may end in a fault. Nothing does: the manual gives the part no fault stop, and answers every request
it does not take with a status code (R174). -/
inductive Fault where
  deriving DecidableEq, Repr

/-- Why a command may be refused a meaning. -/
inductive Refusal where
  /-- Raised by `exec` for a command that has no meaning yet; no arm answers it. Safe: a run stops. -/
  | notModelled (mnemonic : String)
  deriving DecidableEq, Repr

/-- The part right after the power-on of a blank part: no stored image, so the factory defaults with SETTINGS_INVALID
queued at both ports (R182), the run mode STOPPED, every block as its chapter's power-on column gives it, every line
pin LOW and every channel code 0 (DESIGN CHOICE: the manual cannot say what is wired to the pins; log 4). -/
def State.reset : State :=
  { now := 0
    pins := { levels := 0, codes := List.replicate 24 0 }
    runMode := .stopped
    settings := factorySettings
    store := { image := none, saving := none, loaded := false }
    lines := List.replicate 64 blankLine
    doors := List.replicate 48 blankDoor
    fire := false
    activity := List.replicate 16 false
    channels := List.replicate 24 blankChannel
    zones := List.replicate 16 (bootZone factoryZone 0)
    clock := bootClock 0
    programme := .none
    queue := []
    readAt := 0
    alloc := bootAlloc
    outputs := List.replicate 40 bootOutput
    slowOn := true
    fastOn := true
    authority := { holder := none, claim := none }
    locks := List.replicate 48 none
    link :=
      { sup := { bootPort with events := [⟨.settingsInvalid, none, 0, 0⟩] }
        pan := { bootPort with events := [⟨.settingsInvalid, none, 0, 0⟩] }
        notices := false }
    snaps := { fill := none, newest := none, heldSup := none, heldPan := none, count := 0, nextAt := 1000 }
    pending := [] }

end Sys2Proof.Machine
end

