-- ==== Sys2Proof/Machine/Bytes.lean ====
section
/-! DEFINITION. Packing and unpacking the fields of payloads and records (12, "Payloads"), the clamps and roundings the
rules name (00, Conventions), line sets, and the bit packing of snapshots. -/

namespace Sys2Proof.Machine

/-! ### Fields of a payload -/

/-- A one-byte field. -/
def u8 (n : Nat) : List Byte := [BitVec.ofNat 8 n]

/-- A two-byte field, high byte first. -/
def u16 (n : Nat) : List Byte := [BitVec.ofNat 8 (n / 256), BitVec.ofNat 8 n]

/-- A signed field: two bytes in two's complement. -/
def s16 (i : Int) : List Byte := u16 (BitVec.ofInt 16 i).toNat

/-- A four-byte field, high byte first. -/
def u32 (n : Nat) : List Byte := u16 (n / 65536) ++ u16 n

/-- A yes/no field: 0 for no, 1 for yes. -/
def yesNo (b : Bool) : List Byte := [if b then 1 else 0]

/-- The one-byte field at offset `i`. -/
def rd8 (bs : List Byte) (i : Nat) : Nat := (bs.getD i 0).toNat

/-- The two-byte field at offset `i`. -/
def rd16 (bs : List Byte) (i : Nat) : Nat := 256 * rd8 bs i + rd8 bs (i + 1)

/-- The signed two-byte field at offset `i`. -/
def rdS16 (bs : List Byte) (i : Nat) : Int := (BitVec.ofNat 16 (rd16 bs i)).toInt

/-- A yes/no field that is neither 0 nor 1 is malformed (R174; DEDUCED, log 13). -/
def yesNoOk (n : Nat) : Bool := n ≤ 1

/-! ### Clamps and roundings -/

/-- A quantity outside `lo`–`hi` taken at the nearer end. -/
def clampN (lo hi x : Nat) : Nat := max lo (min hi x)

/-- A signed quantity outside `lo`–`hi` taken at the nearer end. -/
def clampI (lo hi x : Int) : Int := max lo (min hi x)

/-- The quotient rounded up to the next whole number. -/
def ceilDiv (a b : Nat) : Nat := (a + b - 1) / b

/-! ### Line sets (12, "Line set") -/

/-- The 8 bytes of the line set of the lines that satisfy `p`. -/
def lineSet (p : Nat → Bool) : List Byte :=
  (List.range 8).map fun k =>
    BitVec.ofNat 8 ((List.range 8).foldl (fun acc i => if p (8 * k + i) then acc + 2 ^ i else acc) 0)

/-- Whether line `l` is a member of a line set. -/
def inLineSet (bs : List Byte) (l : Nat) : Bool := (bs.getD (l / 8) 0).getLsbD (l % 8)

/-! ### Snapshot packing (12, "Snapshot") -/

/-- Fields of given widths packed in order, each most significant bit first, as one number. -/
def packBits : List (Nat × Nat) → Nat → Nat
  | [], acc => acc
  | (w, v) :: rest, acc => packBits rest (acc * 2 ^ w + v % 2 ^ w)

/-- The `n` bytes of a number, most significant first. -/
def bytesOf (n v : Nat) : List Byte :=
  (List.range n).map fun i => BitVec.ofNat 8 (v / 256 ^ (n - 1 - i))

/-- The `n` bytes of a part of the snapshot, its fields packed in table order. -/
def packPart (n : Nat) (fields : List (Nat × Nat)) : List Byte := bytesOf n (packBits fields 0)

/-- A yes/no field of one bit. -/
def bit (b : Bool) : Nat × Nat := (1, if b then 1 else 0)

/-- A signed field of `w` bits in two's complement. -/
def signedField (w : Nat) (i : Int) : Nat × Nat := (w, (BitVec.ofInt w i).toNat)

end Sys2Proof.Machine
end

