-- ==== Sys2Proof/Machine/Codes.lean ====
section
/-! DEFINITION. The codes of enumerated fields: "an enumeration numbers its values from 0 in the order its table lists
them" (12, "Payloads"), and the codes 12 gives outright. -/

namespace Sys2Proof.Machine

/-- The code of a `LineRole` (R175, 01 Line configuration). -/
def LineRole.code : LineRole → Nat
  | .door => 0
  | .occupancy => 1
  | .fire => 2
  | .purge => 3
  | .shed => 4
  | .meter => 5
  | .spare => 6

/-- The code of a `Polarity` (01 Line configuration). -/
def Polarity.code : Polarity → Nat
  | .activeHigh => 0
  | .activeLow => 1

/-- The code of a `TriggerMode` (01 Line configuration). -/
def TriggerMode.code : TriggerMode → Nat
  | .level => 0
  | .toActive => 1
  | .toInactive => 2
  | .both => 3

/-- The code of a `ChannelRole` (02 Channel configuration). -/
def ChannelRole.code : ChannelRole → Nat
  | .zoneTemp => 0
  | .outdoorTemp => 1
  | .air => 2
  | .daylight => 3
  | .unused => 4

/-- The code of a `OutputFunction` (10 Output configuration). -/
def OutputFunction.code : OutputFunction → Nat
  | .heater => 0
  | .curtain => 1
  | .fan => 2
  | .lightContactor => 3
  | .beacon => 4
  | .spare => 5

/-- The code of a `FireFan` (08 Site ventilation values). -/
def FireFan.code : FireFan → Nat
  | .off => 0
  | .exhaust => 1

/-- The code of a `Quality` (R21). -/
def Quality.code : Quality → Nat
  | .good => 0
  | .held => 1
  | .lost => 2

/-- The code of a `Hold` (R148). -/
def Hold.code : Hold → Nat
  | .none => 0
  | .minOn => 1
  | .minOff => 2

/-- The code of a `Forced` (R148). -/
def Forced.code : Forced → Nat
  | .none => 0
  | .fire => 1
  | .stop => 2

/-- The code of a `Grant` (12, reply to CONFIG READ). -/
def Grant.code : Grant → Nat
  | .none => 0
  | .granted => 1
  | .tier0 => 2

/-- The code of a `DoorState` (12, Door entry). -/
def DoorState.code : DoorState → Nat
  | .closed => 0
  | .opened => 1
  | .heldOpen => 2
  | .disabled => 3

/-- The code of a `Occupancy` (12, Zone entry). -/
def Occupancy.code : Occupancy → Nat
  | .vacant => 0
  | .occupied => 1
  | .grace => 2

/-- The code of a `Rate` (12, reply to STATUS). -/
def Rate.code : Rate → Nat
  | .r9600 => 0
  | .r19200 => 1
  | .r38400 => 2
  | .r115200 => 3

/-- The code of a `Cause` (R86). -/
def Cause.code : Cause → Nat
  | .due => 0
  | .force => 1
  | .clock => 2

/-- The `LineRole` a code names; no other code names one (R175, 01 Line configuration). -/
def LineRole.ofCode : Nat → Option LineRole
  | 0 => some .door
  | 1 => some .occupancy
  | 2 => some .fire
  | 3 => some .purge
  | 4 => some .shed
  | 5 => some .meter
  | 6 => some .spare
  | _ => none

/-- The `Polarity` a code names; no other code names one (01 Line configuration). -/
def Polarity.ofCode : Nat → Option Polarity
  | 0 => some .activeHigh
  | 1 => some .activeLow
  | _ => none

/-- The `TriggerMode` a code names; no other code names one (01 Line configuration). -/
def TriggerMode.ofCode : Nat → Option TriggerMode
  | 0 => some .level
  | 1 => some .toActive
  | 2 => some .toInactive
  | 3 => some .both
  | _ => none

/-- The `ChannelRole` a code names; no other code names one (02 Channel configuration). -/
def ChannelRole.ofCode : Nat → Option ChannelRole
  | 0 => some .zoneTemp
  | 1 => some .outdoorTemp
  | 2 => some .air
  | 3 => some .daylight
  | 4 => some .unused
  | _ => none

/-- The `OutputFunction` a code names; no other code names one (10 Output configuration). -/
def OutputFunction.ofCode : Nat → Option OutputFunction
  | 0 => some .heater
  | 1 => some .curtain
  | 2 => some .fan
  | 3 => some .lightContactor
  | 4 => some .beacon
  | 5 => some .spare
  | _ => none

/-- The `FireFan` a code names; no other code names one (08 Site ventilation values). -/
def FireFan.ofCode : Nat → Option FireFan
  | 0 => some .off
  | 1 => some .exhaust
  | _ => none

/-- The code of an event kind (12, Event kinds). -/
def EventKind.code : EventKind → Nat
  | .lineTrigger => 0x01
  | .doorHeldOpen => 0x02
  | .doorClosedAfterHeld => 0x03
  | .fireOn => 0x04
  | .fireReset => 0x05
  | .channelLost => 0x06
  | .channelRecovered => 0x07
  | .calendarEmptyContext => 0x08
  | .clockSet => 0x09
  | .handoverStart => 0x0a
  | .handoverDone => 0x0b
  | .handoverLate => 0x0c
  | .handoverCancelled => 0x0d
  | .airAlarm => 0x0e
  | .airClear => 0x0f
  | .windowClosed => 0x10
  | .overTarget => 0x11
  | .overrun => 0x12
  | .meterLost => 0x13
  | .meterRecovered => 0x14
  | .authorityChange => 0x15
  | .claimPending => 0x16
  | .claimDeclined => 0x17
  | .overrideReleased => 0x18
  | .portSilent => 0x19
  | .saveDone => 0x1a
  | .settingsInvalid => 0x1b
  | .startRefused => 0x1c

/-- The code of a reply status (12, Reply status codes). -/
def Status.code : Status → Nat
  | .ok => 0x00
  | .clamped => 0x01
  | .deferred => 0x02
  | .pending => 0x03
  | .held => 0x04
  | .noClaim => 0x05
  | .noData => 0x06
  | .unknownKind => 0x10
  | .badLength => 0x11
  | .badReference => 0x12
  | .notHolder => 0x13
  | .notStopped => 0x14
  | .notRunning => 0x15
  | .inUse => 0x16
  | .poolFull => 0x17
  | .emptyContext => 0x18
  | .locked => 0x19
  | .busy => 0x1a
  | .configError => 0x1b
  | .fireActive => 0x1c
  | .wrongPort => 0x1d

/-- The code of a request kind (12, Message kinds). -/
def RequestKind.code : RequestKind → Nat
  | .ident => 0x01
  | .status => 0x02
  | .configRead => 0x03
  | .configWrite => 0x04
  | .contextRead => 0x05
  | .contextWrite => 0x06
  | .contextErase => 0x07
  | .contextCopy => 0x08
  | .calendarRead => 0x09
  | .calendarWrite => 0x0a
  | .forceShift => 0x0b
  | .setClock => 0x0c
  | .start => 0x0d
  | .stop => 0x0e
  | .restart => 0x0f
  | .save => 0x10
  | .claim => 0x11
  | .yield => 0x12
  | .decline => 0x13
  | .overrideSet => 0x14
  | .overrideRelease => 0x15
  | .overrideBreak => 0x16
  | .purge => 0x17
  | .linesRead => 0x18
  | .linesClear => 0x19
  | .linesMask => 0x1a
  | .events => 0x1b
  | .snapshot => 0x1c
  | .notices => 0x1d
  | .fireReset => 0x1e
  | .outputSet => 0x1f
  | .outputTest => 0x20
  | .calibrate => 0x21

/-- The request kind a code names; no other code names one (12, Message kinds). -/
def RequestKind.ofCode : Nat → Option RequestKind
  | 0x01 => some .ident
  | 0x02 => some .status
  | 0x03 => some .configRead
  | 0x04 => some .configWrite
  | 0x05 => some .contextRead
  | 0x06 => some .contextWrite
  | 0x07 => some .contextErase
  | 0x08 => some .contextCopy
  | 0x09 => some .calendarRead
  | 0x0a => some .calendarWrite
  | 0x0b => some .forceShift
  | 0x0c => some .setClock
  | 0x0d => some .start
  | 0x0e => some .stop
  | 0x0f => some .restart
  | 0x10 => some .save
  | 0x11 => some .claim
  | 0x12 => some .yield
  | 0x13 => some .decline
  | 0x14 => some .overrideSet
  | 0x15 => some .overrideRelease
  | 0x16 => some .overrideBreak
  | 0x17 => some .purge
  | 0x18 => some .linesRead
  | 0x19 => some .linesClear
  | 0x1a => some .linesMask
  | 0x1b => some .events
  | 0x1c => some .snapshot
  | 0x1d => some .notices
  | 0x1e => some .fireReset
  | 0x1f => some .outputSet
  | 0x20 => some .outputTest
  | 0x21 => some .calibrate
  | _ => none

/-- Who may send a request kind (R164). -/
def RequestKind.access : RequestKind → Access
  | .ident => .anyPort
  | .status => .anyPort
  | .configRead => .anyPort
  | .configWrite => .gated
  | .contextRead => .anyPort
  | .contextWrite => .gated
  | .contextErase => .gated
  | .contextCopy => .gated
  | .calendarRead => .anyPort
  | .calendarWrite => .gated
  | .forceShift => .gated
  | .setClock => .gated
  | .start => .gated
  | .stop => .gated
  | .restart => .gated
  | .save => .gated
  | .claim => .anyPort
  | .yield => .anyPort
  | .decline => .anyPort
  | .overrideSet => .anyPort
  | .overrideRelease => .anyPort
  | .overrideBreak => .gated
  | .purge => .anyPort
  | .linesRead => .anyPort
  | .linesClear => .anyPort
  | .linesMask => .gated
  | .events => .anyPort
  | .snapshot => .anyPort
  | .notices => .panelOnly
  | .fireReset => .panelOnly
  | .outputSet => .gated
  | .outputTest => .gated
  | .calibrate => .gated

/-- A party code: 0 NONE, 1 SUPERVISOR, 2 PANEL (11). -/
def partyCode : Option Port → Nat
  | none => 0
  | some .supervisor => 1
  | some .panel => 2

/-- The other port. -/
def other : Port → Port
  | .supervisor => .panel
  | .panel => .supervisor

/-- The function code of an override lock: LIGHT 0, HEAT 1, VENT 2 (R165). -/
def ZoneFunction.code : ZoneFunction → Nat
  | .light => 0
  | .heat => 1
  | .vent => 2

/-- A line number or dimming channel, with NONE as FFh. -/
def noneFF : Option Nat → Nat
  | none => 0xFF
  | some n => n

/-- The 7 bytes of an event record (12, Event record). -/
def EventRec.bytes (e : EventRec) : List Byte :=
  u8 e.kind.code ++ (match e.time with
    | some (m, sec) => u16 m ++ u8 sec
    | none => u16 0xFFFF ++ u8 0xFF) ++ u8 e.subject ++ u16 e.value

end Sys2Proof.Machine
end

