-- ==== Sys2Proof/Decode.lean ====
section
/-! DEFINITION. The part's reading of frames (R173, Record formats): the CRC, the frame of a request and of a reply as
bytes, and the command that bytes received on a port spell. The opcode table gives its rows no bits, so no table word
spells a command. -/

namespace Sys2Proof

open Machine

/-- The command that a word spells by the table's bits: the table gives no row any. -/
def decodeTableWord (_nbits _w : Nat) : Option Instr := none

/-! ### The CRC (R173) -/

/-- One bit of the CRC: the register is shifted left, and where the bit shifted out differs from the data bit it is
exclusive-ORed with 1021h. -/
def crcBit (crc : BitVec 16) (bit : Bool) : BitVec 16 :=
  if crc.msb != bit then (crc <<< 1) ^^^ 0x1021#16 else crc <<< 1

/-- One byte of the CRC, most significant bit first. -/
def crcByte (crc : BitVec 16) (b : Byte) : BitVec 16 :=
  [7, 6, 5, 4, 3, 2, 1, 0].foldl (fun c i => crcBit c (b.getLsbD i)) crc

/-- The CRC of a run of bytes, from FFFFh, without final inversion. -/
def crc16 (bs : List Byte) : BitVec 16 := bs.foldl crcByte 0xFFFF#16

/-! ### Frames (12, "Frame") -/

/-- The bytes of a frame: start byte, address, kind, length, payload, and the CRC over all between. -/
def frameBytes (address kind : Nat) (payload : List Byte) : List Byte :=
  let body := u8 address ++ u8 kind ++ u8 payload.length ++ payload
  [0xC3#8] ++ body ++ u16 (crc16 body).toNat

/-- The bytes of a frame the part has formed. -/
def Machine.TxFrame.frame (f : TxFrame) : List Byte := frameBytes f.address f.kind f.payload

/-! ### Requests (12, "Message kinds") -/

/-- The row of CONFIG WRITE a payload's class names; a payload without a class of the table is refused by any of them
(R175), and is given to the SITE row. -/
def configWriteRow (p : Port) (payload : List Byte) : Instr :=
  match payload.map BitVec.toNat with
  | 1 :: _ => .configWriteZone p payload
  | 2 :: _ => .configWriteDoor p payload
  | 3 :: _ => .configWriteLine p payload
  | 4 :: _ => .configWriteChannel p payload
  | 5 :: _ => .configWriteOutput p payload
  | _ => .configWriteSite p payload

/-- The command a request of a kind is; RESTART takes what then stands at the pins. -/
def requestOf (p : Port) (payload : List Byte) (levels : LineLevels) (codes : List (BitVec 12)) :
    RequestKind → Instr
  | .ident => .ident p payload
  | .status => .status p payload
  | .configRead => .configRead p payload
  | .configWrite => configWriteRow p payload
  | .contextRead => .contextRead p payload
  | .contextWrite => .contextWrite p payload
  | .contextErase => .contextErase p payload
  | .contextCopy => .contextCopy p payload
  | .calendarRead => .calendarRead p payload
  | .calendarWrite => .calendarWrite p payload
  | .forceShift => .forceShift p payload
  | .setClock => .setClock p payload
  | .start => .start p payload
  | .stop => .stop p payload
  | .restart => .restart p payload levels codes
  | .save => .save p payload
  | .claim => .claim p payload
  | .yield => .yield p payload
  | .decline => .decline p payload
  | .overrideSet => .overrideSet p payload
  | .overrideRelease => .overrideRelease p payload
  | .overrideBreak => .overrideBreak p payload
  | .purge => .purge p payload
  | .linesRead => .linesRead p payload
  | .linesClear => .linesClear p payload
  | .linesMask => .linesMask p payload
  | .events => .events p payload
  | .snapshot => .snapshot p payload
  | .notices => .notices p payload
  | .fireReset => .fireReset p payload
  | .outputSet => .outputSet p payload
  | .outputTest => .outputTest p payload
  | .calibrate => .calibrate p payload

/-- The command a valid frame is, once its kind is known or found unknown (R174). -/
def commandOf (p : Port) (kind : Byte) (payload : List Byte) (levels : LineLevels) (codes : List (BitVec 12)) : Instr :=
  match RequestKind.ofCode kind.toNat with
  | some k => requestOf p payload levels codes k
  | none => .unknownKind p kind payload

/-- A frame of the length its length byte gives (R173): discarded where its CRC differs, not taken where the Supervisor
Port finds another station's address. The Panel Port does not read the address. -/
def decodeBody (p : Port) (station : Nat) (levels : LineLevels) (codes : List (BitVec 12)) (address kind : Byte)
    (payload : List Byte) (carried : List Byte) : Instr :=
  if carried ≠ u16 (crc16 ([address, kind] ++ u8 payload.length ++ payload)).toNat then .frameDiscard p .crc
  else if p = .supervisor ∧ address.toNat ≠ station then .frameNotAddressed
  else commandOf p kind payload levels codes

/-- The bytes after a start byte, as the command they come to and how many of them it takes: abandoned at a length byte
above 200, timed out where they end before the frame is complete, and read otherwise (R173). -/
def decodeAfterStart (p : Port) (station : Nat) (levels : LineLevels) (codes : List (BitVec 12)) : List Byte → Instr × Nat
  | address :: kind :: len :: rest =>
    if 200 < len.toNat then (.frameDiscard p .length, 3)
    else if rest.length < len.toNat + 2 then (.frameByteTimeout p, 3 + rest.length)
    else (decodeBody p station levels codes address kind (rest.take len.toNat) ((rest.drop len.toNat).take 2),
      3 + len.toNat + 2)
  | short => (.frameByteTimeout p, short.length)

/-- The reading of a run of bytes whose first `skip` bytes belong to a frame already taken. -/
def decodeRun (p : Port) (station : Nat) (levels : LineLevels) (codes : List (BitVec 12)) : Nat → List Byte → List Instr
  | _, [] => []
  | n + 1, _ :: rest => decodeRun p station levels codes n rest
  | 0, b :: rest =>
    if b = 0xC3#8 then
      let (c, taken) := decodeAfterStart p station levels codes rest
      c :: decodeRun p station levels codes taken rest
    else decodeRun p station levels codes 0 rest

/-- The commands that a run of bytes received on a port spells, in their order, after which no byte comes for 20
bit-times (R173): bytes other than the start byte are discarded while the port waits for a frame, and after a frame,
whole or abandoned at its length byte, the port waits for a start byte again. -/
def decodeFrames (p : Port) (station : Nat) (levels : LineLevels) (codes : List (BitVec 12)) (bytes : List Byte) :
    List Instr :=
  decodeRun p station levels codes 0 bytes

/-- The first command that a run of bytes spells; bytes without a start byte spell nothing. -/
def decodeFrame (p : Port) (station : Nat) (levels : LineLevels) (codes : List (BitVec 12)) (bytes : List Byte) :
    Option Instr :=
  (decodeFrames p station levels codes bytes).head?

/-! ### The frame of a request -/

/-- The port, kind and payload of a request command. -/
def requestParts : Instr → Option (Port × Nat × List Byte)
  | .ident p b => some (p, RequestKind.ident.code, b)
  | .status p b => some (p, RequestKind.status.code, b)
  | .configRead p b => some (p, RequestKind.configRead.code, b)
  | .configWriteSite p b => some (p, RequestKind.configWrite.code, b)
  | .configWriteZone p b => some (p, RequestKind.configWrite.code, b)
  | .configWriteDoor p b => some (p, RequestKind.configWrite.code, b)
  | .configWriteLine p b => some (p, RequestKind.configWrite.code, b)
  | .configWriteChannel p b => some (p, RequestKind.configWrite.code, b)
  | .configWriteOutput p b => some (p, RequestKind.configWrite.code, b)
  | .contextRead p b => some (p, RequestKind.contextRead.code, b)
  | .contextWrite p b => some (p, RequestKind.contextWrite.code, b)
  | .contextErase p b => some (p, RequestKind.contextErase.code, b)
  | .contextCopy p b => some (p, RequestKind.contextCopy.code, b)
  | .calendarRead p b => some (p, RequestKind.calendarRead.code, b)
  | .calendarWrite p b => some (p, RequestKind.calendarWrite.code, b)
  | .forceShift p b => some (p, RequestKind.forceShift.code, b)
  | .setClock p b => some (p, RequestKind.setClock.code, b)
  | .start p b => some (p, RequestKind.start.code, b)
  | .stop p b => some (p, RequestKind.stop.code, b)
  | .restart p b _ _ => some (p, RequestKind.restart.code, b)
  | .save p b => some (p, RequestKind.save.code, b)
  | .claim p b => some (p, RequestKind.claim.code, b)
  | .yield p b => some (p, RequestKind.yield.code, b)
  | .decline p b => some (p, RequestKind.decline.code, b)
  | .overrideSet p b => some (p, RequestKind.overrideSet.code, b)
  | .overrideRelease p b => some (p, RequestKind.overrideRelease.code, b)
  | .overrideBreak p b => some (p, RequestKind.overrideBreak.code, b)
  | .purge p b => some (p, RequestKind.purge.code, b)
  | .linesRead p b => some (p, RequestKind.linesRead.code, b)
  | .linesClear p b => some (p, RequestKind.linesClear.code, b)
  | .linesMask p b => some (p, RequestKind.linesMask.code, b)
  | .events p b => some (p, RequestKind.events.code, b)
  | .snapshot p b => some (p, RequestKind.snapshot.code, b)
  | .notices p b => some (p, RequestKind.notices.code, b)
  | .fireReset p b => some (p, RequestKind.fireReset.code, b)
  | .outputSet p b => some (p, RequestKind.outputSet.code, b)
  | .outputTest p b => some (p, RequestKind.outputTest.code, b)
  | .calibrate p b => some (p, RequestKind.calibrate.code, b)
  | .unknownKind p k b => some (p, k.toNat, b)
  | .frameDiscard _ _ => none
  | .frameByteTimeout _ => none
  | .frameNotAddressed => none
  | .baudSearchDwell _ => none
  | .silenceTimeExpiry _ => none
  | .notice => none
  | .powerOn _ _ => none
  | .saveWriteComplete => none
  | .snapshotComposition => none
  | .debouncedChange _ => none
  | .heldOpenCheck => none
  | .channelSample _ => none
  | .channelHoldExpiry _ => none
  | .zoneEvaluation => none
  | .occupancyHoldExpiry _ => none
  | .graceExpiry _ => none
  | .downDelayExpiry _ => none
  | .purgeEnd _ => none
  | .handoverRampEnd => none
  | .lateTest => none
  | .lookAheadRead => none
  | .dueEvent => none
  | .purgeLeadReached _ => none
  | .preheatLeadReached _ => none
  | .allocationRound => none
  | .meterSilenceExpiry => none
  | .windowEnd => none
  | .controlledEnergySecond => none
  | .minOnEnd _ => none
  | .minOffEnd _ => none
  | .outputTestEnd _ => none
  | .claimTimeout => none
  | .overrideExpiry _ => none
  | .lineSample _ => none
  | .beaconPatternHalf _ => none
  | .sendComplete _ => none

/-- The frame that carries a request command to station `address`. -/
def encodeFrame (address : Nat) (i : Instr) : Option (List Byte) :=
  (requestParts i).map fun r => frameBytes address r.2.1 r.2.2

end Sys2Proof
end

