-- ==== Sys2Proof/Machine/Views.lean ====
section
/-! DEFINITION. Reading the state: the records by number, and every value the manual defines as formed from others when it
is read (door-open counts, derived readings, unit and stage counts, granted stages, pin states, context states). One home
for each fact: what is formed here is stored nowhere. -/

namespace Sys2Proof.Machine

/-! ### Records by number -/

/-- The SITE record. -/
def State.site (s : State) : SiteConfig := s.settings.site
/-- Zone `z`'s configuration. -/
def State.zoneCfg (s : State) (z : Nat) : ZoneConfig := s.settings.zones.getD z factoryZone
/-- Door `d`'s configuration. -/
def State.doorCfg (s : State) (d : Nat) : DoorConfig := s.settings.doors.getD d factoryDoor
/-- Line `l`'s configuration as last written. -/
def State.lineCfg (s : State) (l : Nat) : LineConfig := s.settings.lines.getD l factoryLine
/-- Channel `c`'s configuration. -/
def State.chanCfg (s : State) (c : Nat) : ChannelConfig := s.settings.channels.getD c factoryChannel
/-- Output `o`'s configuration. -/
def State.outCfg (s : State) (o : Nat) : OutputConfig := s.settings.outputs.getD o factoryOutput
/-- Context `c`'s record, `none` where EMPTY. -/
def State.context (s : State) (c : Nat) : Option Context := s.settings.contexts.getD c none
/-- Slot `k`'s value, `none` for HOLD (R51). -/
def State.slotValue (s : State) (k : Nat) : Option Nat := s.settings.calendar.getD k none
/-- Zone `z`'s record. -/
def State.zone (s : State) (z : Nat) : ZoneRec := s.zones.getD z (bootZone factoryZone 0)
/-- Door `d`'s record. -/
def State.door (s : State) (d : Nat) : DoorRec := s.doors.getD d blankDoor
/-- Line `l`'s record. -/
def State.line (s : State) (l : Nat) : LineRec := s.lines.getD l blankLine
/-- Channel `c`'s record. -/
def State.chan (s : State) (c : Nat) : ChannelRec := s.channels.getD c blankChannel
/-- Output `o`'s record. -/
def State.out (s : State) (o : Nat) : OutputRec := s.outputs.getD o bootOutput
/-- The number of zone `z`'s lock for a function (11, Override locks). -/
def lockNumber (z : Nat) (f : ZoneFunction) : Nat := 3 * z + f.code
/-- Lock `i`, `none` where EMPTY. -/
def State.lock (s : State) (i : Nat) : Option Lock := s.locks.getD i none
/-- The value of zone `z`'s FULL lock for a function (R170). -/
def State.override (s : State) (z : Nat) (f : ZoneFunction) : Option Nat := (s.lock (lockNumber z f)).map Lock.value
/-- A port's record. -/
def State.port (s : State) : Port → PortRec
  | .supervisor => s.link.sup
  | .panel => s.link.pan
/-- Whether zone `z` is enabled. -/
def State.enabled (s : State) (z : Nat) : Bool := (s.zoneCfg z).enabled
/-- Whether the part is RUNNING. -/
def State.running (s : State) : Bool := s.runMode == .running
/-- The number of enabled zones. -/
def State.enabledZones (s : State) : Nat := (List.range 16).countP fun z => s.enabled z
/-- Whether at least `secs` seconds of the elapsed-time base have run since `stamp`. -/
def State.ranFor (s : State) (stamp secs : Nat) : Bool := stamp + 100 * secs ≤ s.now
/-- The whole seconds since `stamp`, truncated (DEDUCED: "door timing counts whole seconds", 01; log 3). -/
def State.secondsSince (s : State) (stamp : Nat) : Nat := (s.now - stamp) / 100

/-! ### Lines and doors -/

/-- The logical level of a raw level under a polarity (R2). -/
def logicalLevel (p : Polarity) (raw : Bool) : Bool :=
  match p with
  | .activeHigh => raw
  | .activeLow => !raw

/-- An enabled line of role `r`, by the configuration in force. -/
def State.lineIs (s : State) (l : Nat) (r : LineRole) : Bool :=
  (s.line l).inForce.enable && (s.line l).inForce.role == r

/-- A FIRE line is debounced ACTIVE (R15 to R17). -/
def State.fireLineActive (s : State) : Bool :=
  (List.range 64).any fun l => s.lineIs l .fire && (s.line l).active

/-- The shed state (R10). -/
def State.shed (s : State) : Bool := (List.range 64).any fun l => s.lineIs l .shed && (s.line l).active

/-- The number of the line of role METER (R137), by the configuration. -/
def State.meterLine (s : State) : Option Nat := (List.range 64).find? fun l => (s.lineCfg l).role == .meter

/-- A configured door (01, Doors). -/
def State.doorConfigured (s : State) (d : Nat) : Bool := (s.doorCfg d).line.isSome

/-- A condition that makes a door DISABLED holds (R12). -/
def State.doorDisabled (s : State) (d : Nat) : Bool :=
  match (s.doorCfg d).line with
  | none => true
  | some l => !s.lineIs l .door

/-- The door's line is debounced ACTIVE (R13). -/
def State.doorLineActive (s : State) (d : Nat) : Bool :=
  match (s.doorCfg d).line with
  | none => false
  | some l => (s.line l).active

/-- A door's state counts as open: OPEN or HELD_OPEN (R14). -/
def DoorState.isOpen : DoorState → Bool
  | .opened => true
  | .heldOpen => true
  | .closed => false
  | .disabled => false

/-- Zone `z`'s door-open count (R14). -/
def State.doorsOpen (s : State) (z : Nat) : Nat :=
  (List.range 48).countP fun d => (s.doorCfg d).zone == z && (s.door d).state.isOpen

/-- A LEVEL OCCUPANCY line of zone `z` is ACTIVE (R9). -/
def State.levelActivity (s : State) (z : Nat) : Bool :=
  (List.range 64).any fun l =>
    s.lineIs l .occupancy && (s.line l).inForce.zone == z && (s.line l).trigger == .level && (s.line l).active

/-- Zone `z` has an occupancy source (R41). Roles, enables and assignments are structural, so the settings answer, and
the answer is fixed for the whole of a RUNNING period, also where a line's write still waits for its sample (DEDUCED, log
16). -/
def State.hasOccupancySource (s : State) (z : Nat) : Bool :=
  ((List.range 64).any fun l =>
    (s.lineCfg l).enable && (s.lineCfg l).role == .occupancy && (s.lineCfg l).zone == z) ||
  ((List.range 48).any fun d => s.doorConfigured d && (s.doorCfg d).zone == z)

/-! ### Readings -/

/-- A channel of role `r` whose value readers take: GOOD or HELD (R29 to R31). -/
def State.readable (s : State) (c : Nat) (r : ChannelRole) : Bool :=
  (s.chanCfg c).role == r && (s.chan c).quality != .lost

/-- The quality CONFIG READ reports: LOST for a channel whose role is NONE (R21). -/
def State.shownQuality (s : State) (c : Nat) : Quality :=
  if (s.chanCfg c).role = .unused then .lost else (s.chan c).quality

/-- Zone `z`'s temperature, `none` where LOST (R29). -/
def State.zoneTemp (s : State) (z : Nat) : Option Int :=
  match (List.range 24).filter fun c => s.readable c .zoneTemp && (s.chanCfg c).zone == z with
  | [] => none
  | [c] => some (s.chan c).value
  | c :: d :: _ => some (((s.chan c).value + (s.chan d).value).tdiv 2)

/-- The OUTDOOR_TEMP channel's value where it is GOOD or HELD. -/
def State.outdoorReading (s : State) : Option Int :=
  ((List.range 24).find? fun c => s.readable c .outdoorTemp).map fun c => (s.chan c).value

/-- The outdoor temperature (R30). -/
def State.outdoor (s : State) : Int := s.outdoorReading.getD s.site.designOutdoor

/-- The substituted flag (R30). -/
def State.outdoorSubstituted (s : State) : Bool := s.outdoorReading.isNone

/-- The daylight reading, `none` where LOST (R31). -/
def State.daylight (s : State) : Option Int :=
  ((List.range 24).find? fun c => s.readable c .daylight).map fun c => (s.chan c).value

/-- Zone `z`'s air reading, `none` where LOST (R31). -/
def State.zoneAir (s : State) (z : Nat) : Option Int :=
  ((List.range 24).find? fun c => s.readable c .air && (s.chanCfg c).zone == z).map fun c => (s.chan c).value

/-! ### Outputs -/

/-- The load functions: HEATER, CURTAIN and FAN (10). -/
def OutputFunction.isLoad : OutputFunction → Bool
  | .heater => true
  | .curtain => true
  | .fan => true
  | .lightContactor => false
  | .beacon => false
  | .spare => false

/-- Output `o` is a load output. -/
def State.isLoad (s : State) (o : Nat) : Bool := (s.outCfg o).function.isLoad

/-- Output `o` has function `f` and names zone `z` with unit or stage `u`. -/
def State.servesUnit (s : State) (f : OutputFunction) (z u o : Nat) : Bool :=
  (s.outCfg o).function == f && (s.outCfg o).ref == .zone z u

/-- The largest n for which units (or stages) 1 to n of zone `z` each have an output of function `f`: the unit count
(R104) and the fan stage count (R119). -/
def State.unitCount (s : State) (f : OutputFunction) (z : Nat) : Nat :=
  let has := fun u => (List.range 40).any (s.servesUnit f z u)
  if has 1 then (if has 2 then (if has 3 then 3 else 2) else 1) else 0

/-- The fan stage count of zone `z` (R119). -/
def State.fanStages (s : State) (z : Nat) : Nat := s.unitCount .fan z

/-- The unit count of zone `z` (R104). -/
def State.heaterUnits (s : State) (z : Nat) : Nat := s.unitCount .heater z

/-- Stage `u` of zone `z` stands granted. -/
def State.stageGranted (s : State) (z u : Nat) : Bool :=
  (List.range 40).any fun o => s.servesUnit .fan z u o && (s.out o).grant != .none

/-- Zone `z`'s granted fan stage (R119). -/
def State.grantedFanStage (s : State) (z : Nat) : Nat :=
  if s.stageGranted z 1 then (if s.stageGranted z 2 then (if s.stageGranted z 3 then 3 else 2) else 1) else 0

/-- The units granted of zone `z` (R114). -/
def State.unitsGranted (s : State) (z : Nat) : Nat :=
  (List.range 40).countP fun o =>
    (s.outCfg o).function == .heater &&
    (match (s.outCfg o).ref with | .zone z' _ => z' == z | _ => false) && (s.out o).grant != .none

/-- Zone `z`'s contactor demand (R98). -/
def State.contactorDemand (s : State) (z : Nat) : Bool := 0 < (s.zone z).light.present

/-- The pattern a BEACON output shows (R155). -/
inductive Pattern where
  | none | slow | fast
  deriving DecidableEq, Repr

/-- A beacon's pattern formed from its sources (R155). -/
def State.pattern (s : State) (o : Nat) : Pattern :=
  if (s.outCfg o).function ≠ .beacon then .none
  else if s.fire then .fast
  else match (s.outCfg o).ref with
    | .zone z _ => if (s.zone z).vent.alarm then .fast else .none
    | .door d => if (s.door d).state = .heldOpen then .slow else .none
    | .nothing => .none

/-- The code of a pattern (R148, in its table's order). -/
def Pattern.code : Pattern → Nat
  | .none => 0
  | .slow => 1
  | .fast => 2

/-- The state of output `o`'s pin (R148 to R157): ON under a test; otherwise a load output's drive, a contactor's
demand, a beacon's pattern or commanded value, a SPARE output's commanded value. -/
def State.pinOn (s : State) (o : Nat) : Bool :=
  if (s.out o).testEnd.isSome then true
  else match (s.outCfg o).function with
    | .heater => (s.out o).drive
    | .curtain => (s.out o).drive
    | .fan => (s.out o).drive
    | .lightContactor =>
      match (s.outCfg o).ref with
      | .zone z _ => s.contactorDemand z
      | _ => false
    | .beacon =>
      match s.pattern o with
      | .fast => s.fastOn
      | .slow => s.slowOn
      | .none => (s.out o).commanded
    | .spare => (s.out o).commanded

/-- The zone of dimming channel `k`: the enabled zone whose configuration names it (R154). -/
def State.dimZone (s : State) (k : Nat) : Option Nat :=
  (List.range 16).find? fun z => s.enabled z && (s.zoneCfg z).dimming == some k

/-- The level dimming channel `k` carries (R154). -/
def State.dimLevel (s : State) (k : Nat) : Nat :=
  match s.dimZone k with
  | some z => (s.zone z).light.present
  | none => 0

/-- The outputs that name zone `z`, in output order (03, note 1; R48): those whose reference is the zone. An output whose
reference is a door names the door, not the door's zone (DEDUCED, log 41). -/
def State.outputsOfZone (s : State) (z : Nat) : List Nat :=
  (List.range 40).filter fun o => match (s.outCfg o).ref with | .zone z' _ => z' == z | _ => false

/-! ### Contexts, calendar and clock -/

/-- A context's state (R55). -/
inductive ContextState where
  | empty | stored | current | outgoing | incoming
  deriving DecidableEq, Repr

/-- The code of a context state (R55, in its order). -/
def ContextState.code : ContextState → Nat
  | .empty => 0
  | .stored => 1
  | .current => 2
  | .outgoing => 3
  | .incoming => 4

/-- The context in force (R134): INCOMING during a handover, otherwise CURRENT. -/
def Programme.inForce : Programme → Option Nat
  | .none => Option.none
  | .current c => some c
  | .handover h => some h.incoming

/-- CURRENT's number. -/
def Programme.currentNo : Programme → Option Nat
  | .current c => some c
  | _ => Option.none

/-- OUTGOING's number. -/
def Programme.outgoingNo : Programme → Option Nat
  | .handover h => some h.outgoing
  | _ => Option.none

/-- INCOMING's number. -/
def Programme.incomingNo : Programme → Option Nat
  | .handover h => some h.incoming
  | _ => Option.none

/-- Context `c` is CURRENT, OUTGOING or INCOMING (R55). -/
def State.active (s : State) (c : Nat) : Bool :=
  s.programme.currentNo == some c || s.programme.outgoingNo == some c || s.programme.incomingNo == some c

/-- Context `c`'s state (R55). -/
def State.contextState (s : State) (c : Nat) : ContextState :=
  if s.programme.currentNo = some c then .current
  else if s.programme.outgoingNo = some c then .outgoing
  else if s.programme.incomingNo = some c then .incoming
  else match s.context c with
    | some _ => .stored
    | none => .empty

/-- Context `c` is named by a look-ahead queue entry (R57, R59). -/
def State.queued (s : State) (c : Nat) : Bool := s.queue.any fun e => e.context == c

/-- The pool entries a context holds (R54). -/
def contextEntries : Option Context → Nat
  | none => 0
  | some c => c.entries.length

/-- The pool entries in use across the store (R54). -/
def poolUsed (cs : List (Option Context)) : Nat := (cs.map contextEntries).sum

/-- The entry of context `c` for zone `z`. -/
def State.entryFor (s : State) (c z : Nat) : Option ZoneEntry :=
  (s.context c).bind fun k => k.entries.find? fun e => e.zone == z

/-- The current slot (04, Calendar). -/
def State.currentSlot (s : State) : Nat := s.clock.minute / 15

/-- The second of the week. -/
def State.weekSecond (s : State) : Nat := 60 * s.clock.minute + s.clock.second

/-- The clock stands at a slot boundary: second 0 of a minute that is a multiple of 15. -/
def State.atSlotBoundary (s : State) : Bool := s.clock.second == 0 && s.clock.minute % 15 == 0

/-- The calendar runs: the part RUNNING and the clock VALID (R49, R52). -/
def State.calendarRuns (s : State) : Bool := s.running && s.clock.valid

/-- Slot `k` lies in the edit horizon (R52): it is the slot at which the calendar was last read, or one of the H slots
after it. A write taken at a slot boundary before the boundary's read is judged by the slot before (DEDUCED, log 29). -/
def State.inHorizon (s : State) (k : Nat) : Bool :=
  s.calendarRuns && (k + 672 - s.readAt) % 672 ≤ s.site.lead

/-- A queue entry's due minute (R61). -/
def QueueEntry.due (e : QueueEntry) : Nat := 15 * e.slot

/-- A queue entry's time to due, in seconds of the site clock (R61). -/
def State.timeToDue (s : State) (e : QueueEntry) : Nat := (60 * e.due + 604800 - s.weekSecond) % 604800

/-- An entry's due time has been reached (R62, R63). A queued entry is never more than 900 × 4 s ahead (R61), so a
longer time to due is one the clock has passed (DEDUCED, log 29). -/
def State.dueReached (s : State) (e : QueueEntry) : Bool := s.timeToDue e == 0 || 3600 < s.timeToDue e

/-- The context in force at the next slot to be read: the last entry's, else the programme's (R62). -/
def State.inForceAhead (s : State) : Option Nat :=
  match s.queue.getLast? with
  | some e => some e.context
  | none => s.programme.inForce

/-! ### Power -/

/-- watts(x): the watts of level `x` under rated watts `w` (R93). -/
def wattsAt (w x : Nat) : Nat := ceilDiv (w * x) 100

/-- Output `o`'s hold is MIN_ON. -/
def State.inMinOn (s : State) (o : Nat) : Bool := (s.out o).hold == .minOn

/-- An entry of the load list (R138). -/
inductive Load where
  | switched (o : Nat)
  | light (z : Nat)
  deriving DecidableEq, Repr

/-- The load list: the load outputs in output order, then a LIGHT entry for each enabled zone (R138). Output functions
and zone enables are structural, so this is the list START forms for the whole RUNNING period. -/
def State.loadList (s : State) : List Load :=
  ((List.range 40).filter s.isLoad).map .switched ++ ((List.range 16).filter s.enabled).map .light

/-- An entry's configured tier (R138): a LIGHT entry's is the zone's lighting trim tier in force (R87; log 47). -/
def State.loadTier (s : State) : Load → Nat
  | .switched o => (s.outCfg o).tier
  | .light z => (s.zone z).light.trimTier

/-- The positions in the load list of tier `k`'s rotation list (R140). -/
def State.rotationList (s : State) (k : Nat) : List Nat :=
  (List.range s.loadList.length).filter fun i =>
    match s.loadList[i]? with
    | some x => s.loadTier x == k
    | none => false

/-- A window's elapsed time t, in whole seconds on its own time base (R131). -/
def State.windowTime (s : State) (w : Window) : Nat :=
  match w.base with
  | .site => (s.weekSecond + 604800 - w.start) % 604800
  | .elapsed => s.secondsSince w.start

/-- A window's E_used (R130). -/
def State.windowUsed (s : State) (w : Window) : Nat := w.pulses * s.site.pulseWeight

end Sys2Proof.Machine
end

