-- ==== Sys2Proof/Machine/Ops.lean ====
section
/-! DEFINITION. The operations the blocks share: changing one record, raising an event, a load output's response to
requests, grants, lapses and forcings, emptying locks, and taking a purge request. -/

namespace Sys2Proof.Machine

/-! ### Changing one record -/

/-- Zone `z`'s record changed by `f`. -/
def State.updZone (s : State) (z : Nat) (f : ZoneRec → ZoneRec) : State := { s with zones := s.zones.modify z f }
/-- Door `d`'s record changed by `f`. -/
def State.updDoor (s : State) (d : Nat) (f : DoorRec → DoorRec) : State := { s with doors := s.doors.modify d f }
/-- Line `l`'s record changed by `f`. -/
def State.updLine (s : State) (l : Nat) (f : LineRec → LineRec) : State := { s with lines := s.lines.modify l f }
/-- Channel `c`'s record changed by `f`. -/
def State.updChan (s : State) (c : Nat) (f : ChannelRec → ChannelRec) : State :=
  { s with channels := s.channels.modify c f }
/-- Output `o`'s record changed by `f`. -/
def State.updOut (s : State) (o : Nat) (f : OutputRec → OutputRec) : State :=
  { s with outputs := s.outputs.modify o f }
/-- Zone `z`'s activity mark set to `b`. -/
def State.setMark (s : State) (z : Nat) (b : Bool) : State := { s with activity := s.activity.set z b }
/-- Lock `i` set. -/
def State.setLock (s : State) (i : Nat) (v : Option Lock) : State := { s with locks := s.locks.set i v }
/-- A port's record changed by `f`. -/
def State.updPort (s : State) (p : Port) (f : PortRec → PortRec) : State :=
  match p with
  | .supervisor => { s with link := { s.link with sup := f s.link.sup } }
  | .panel => { s with link := { s.link with pan := f s.link.pan } }
/-- The Load Allocator's state changed by `f`. -/
def State.updAlloc (s : State) (f : Alloc → Alloc) : State := { s with alloc := f s.alloc }
/-- The settings changed by `f`. -/
def State.updSettings (s : State) (f : Settings → Settings) : State := { s with settings := f s.settings }
/-- The settings with the record of context `c` set, `none` for EMPTY. -/
def State.setContext (s : State) (c : Nat) (v : Option Context) : State :=
  s.updSettings fun k => { k with contexts := k.contexts.set c v }
/-- `f` applied for each of the numbers below `n`, in ascending order. -/
def State.forEach (s : State) (n : Nat) (f : Nat → State → State) : State :=
  (List.range n).foldl (fun s i => f i s) s

/-! ### Events (R176, R177) -/

/-- An event record appended to a queue; one that holds 24 records first loses its oldest (R176). -/
def PortRec.push (p : PortRec) (e : EventRec) : PortRec :=
  if p.events.length < 24 then { p with events := p.events ++ [e] }
  else { p with events := p.events.drop 1 ++ [e], lost := min 255 (p.lost + 1) }

/-- The record of an event raised now; its time is the site clock's, or NO_CLOCK while INVALID (R176). The subject is
one byte and the value 16 bits. -/
def State.eventNow (s : State) (k : EventKind) (subject value : Nat) : EventRec :=
  { kind := k, time := if s.clock.valid then some (s.clock.minute, s.clock.second) else none,
    subject := subject % 256, value := value % 65536 }

/-- The notice frame of an event record (R177). -/
def State.noticeFrame (s : State) (e : EventRec) : TxFrame :=
  { address := s.site.station, kind := 0xE0, payload := e.bytes }

/-- An event appended to one party's queue, and formed as a notice where the panel has notices ON (R176, R177). -/
def State.raiseTo (s : State) (dest : Port) (k : EventKind) (subject value : Nat) : State :=
  let e := s.eventNow k subject value
  s.updPort dest fun p =>
    if dest = .panel ∧ s.link.notices = true then { p.push e with tx := p.tx ++ [s.noticeFrame e] } else p.push e

/-- An event queued to both ports (R176). -/
def State.raise (s : State) (k : EventKind) (subject value : Nat) : State :=
  (s.raiseTo .supervisor k subject value).raiseTo .panel k subject value

/-- A signed value as an event's 16-bit field. -/
def signedValue (i : Int) : Nat := (BitVec.ofInt 16 i).toNat

/-- A value saturating at 65535. -/
def saturate16 (n : Nat) : Nat := min 65535 n

/-! ### A load output's record (R144, R149 to R152) -/

/-- The hold a time of `secs` begins: none where the time is 0 (R149). -/
def holdFor (h : Hold) (secs : Nat) : Hold := if secs = 0 then .none else h

/-- Drive becomes ON: the last on time is stamped and MIN_ON begins (R149). -/
def OutputRec.switchOn (now : Nat) (c : OutputConfig) (r : OutputRec) : OutputRec :=
  { r with drive := true, lastOn := some now, hold := holdFor .minOn c.minOn }

/-- Drive becomes OFF: the last off time is stamped and MIN_OFF begins (R149). -/
def OutputRec.switchOff (now : Nat) (c : OutputConfig) (r : OutputRec) : OutputRec :=
  { r with drive := false, lastOff := some now, hold := holdFor .minOff c.minOff }

/-- A grant arrives (R149): a tier 0 grant switches an unforced output ON whatever the hold, a tier 1–3 grant only
where no hold runs, and an output that is ON stays ON without a new stamp. -/
def OutputRec.takeGrant (now : Nat) (c : OutputConfig) (tier0 : Bool) (r : OutputRec) : OutputRec :=
  let r' := { r with grant := if tier0 then Grant.tier0 else Grant.granted }
  if r.drive = false ∧ r.forced = .none ∧ (tier0 = true ∨ r.hold = .none) then r'.switchOn now c else r'

/-- The grant lapses and an output that is ON goes OFF (R149). -/
def OutputRec.lapse (now : Nat) (c : OutputConfig) (r : OutputRec) : OutputRec :=
  if r.drive = true then { r with grant := .none }.switchOff now c else { r with grant := .none }

/-- A controller places a request, `none` to withdraw it (R144): a request that becomes tier 0 is granted at once if not
already granted, a withdrawn one loses its grant unless MIN_ON runs, and any other waits for the round. -/
def OutputRec.place (now : Nat) (c : OutputConfig) (req : Option Nat) (r : OutputRec) : OutputRec :=
  match req with
  | some 0 => if r.grant = .none then { r with request := some 0 }.takeGrant now c true else { r with request := some 0 }
  | some (k + 1) => { r with request := some (k + 1) }
  | none => if r.hold = .minOn then { r with request := none } else { r with request := none }.lapse now c

/-- Forcing off by fire mode (R151): Drive OFF ignoring MIN_ON, the last off time stamped, MIN_OFF begun, forced FIRE
unless already STOP; the request is withdrawn and the grant lapses (R113, R126, R144). -/
def OutputRec.forceFire (now : Nat) (c : OutputConfig) (r : OutputRec) : OutputRec :=
  { r with drive := false, lastOff := some now, hold := holdFor .minOff c.minOff,
           forced := if r.forced = .stop then .stop else .fire, request := none, grant := .none }

/-- Forced FIRE becomes NONE; forced STOP is left (R151). -/
def OutputRec.unforceFire (r : OutputRec) : OutputRec :=
  if r.forced = .fire then { r with forced := .none } else r

/-- Forcing off by STOP (R152): an output that was ON goes OFF with a stamp and MIN_OFF, one already OFF keeps its hold;
the request is withdrawn and the grant lapses (R146). -/
def OutputRec.forceStop (now : Nat) (c : OutputConfig) (r : OutputRec) : OutputRec :=
  let r' := if r.drive = true then r.switchOff now c else r
  { r' with forced := .stop, request := none, grant := .none }

/-- The end of an OUTPUT TEST (R157): a load output goes OFF with a stamp and MIN_OFF, any other returns to its own
drive. An output under no test is unchanged. -/
def OutputRec.endTest (now : Nat) (c : OutputConfig) (r : OutputRec) : OutputRec :=
  match r.testEnd with
  | none => r
  | some _ => if c.function.isLoad then { r with testEnd := none }.switchOff now c else { r with testEnd := none }

/-- A controller places output `o`'s request (R144). -/
def State.place (s : State) (o : Nat) (req : Option Nat) : State :=
  s.updOut o (OutputRec.place s.now (s.outCfg o) req)

/-- Every running test ends (R157). -/
def State.endTests (s : State) : State := s.forEach 40 fun o s => s.updOut o (OutputRec.endTest s.now (s.outCfg o))

/-- The requests of zone `z`'s counted units or stages of function `f`, unit `u` at `tier u` (R104, R109, R119, R125):
units above a gap are never requested. -/
def State.placeUnits (s : State) (f : OutputFunction) (z : Nat) (tier : Nat → Nat → Option Nat) : State :=
  s.forEach 40 fun o t =>
    match (s.outCfg o).ref with
    | .zone z' u =>
      if (s.outCfg o).function = f ∧ z' = z ∧ 1 ≤ u ∧ u ≤ s.unitCount f z then t.place o (tier o u) else t
    | _ => t

/-! ### Locks (R167 to R169) -/

/-- A FULL lock becomes EMPTY with its OVERRIDE_RELEASED, the reason given; an EMPTY one is unchanged. -/
def State.releaseLock (s : State) (i reason : Nat) : State :=
  match s.lock i with
  | none => s
  | some k => (s.setLock i none).raise .overrideReleased i (reason + 256 * partyCode (some k.owner))

/-- Every FULL lock that satisfies `p` is released (R169). -/
def State.releaseLocks (s : State) (p : Lock → Bool) (reason : Nat) : State :=
  s.forEach 48 fun i s => if (s.lock i).any p then s.releaseLock i reason else s

/-! ### Purge requests (R123) -/

/-- A purge request: taken while RUNNING for an enabled zone, setting the purge end; otherwise discarded. -/
def State.purgeRequest (s : State) (z minutes : Nat) : State :=
  if s.running = true ∧ s.enabled z = true then
    s.updZone z fun r => { r with vent := { r.vent with purgeEnd := some (s.now + 6000 * minutes) } }
  else s

/-- The duration of a purge asked for by a PURGE line or PURGE command (R123): the purge duration of the context the
zone record names, 10 min where its source is IDLE. -/
def State.purgeMinutes (s : State) (z : Nat) : Nat :=
  let ofContext := fun c => match s.context c with
    | some k => k.purgeDur
    | none => Config.unstatedPurgeMinutes c
  match (s.zone z).prog.source with
  | .idle => 10
  | .current c => ofContext c
  | .incoming c => ofContext c

end Sys2Proof.Machine
end

