-- ==== Sys2Proof/Machine/AuthorityUnit.lean ====
section
/-! DEFINITION. Control Authority and Overrides (11): the authority record's changes, the locks' expiry, what both do at a
port's silence, and the rows CLAIM_TIMEOUT and OVERRIDE_EXPIRY. -/

namespace Sys2Proof.Machine

/-- The holder changes and no claim is left pending; AUTHORITY_CHANGE is queued with the reason (R163: 0 CLAIM, 1 YIELD,
2 TIMEOUT, 3 SILENCE). -/
def State.setHolder (s : State) (new : Option Port) (reason : Nat) : State :=
  ({ s with authority := { holder := new, claim := none } } : State).raise .authorityChange (partyCode new)
    (reason + 256 * partyCode s.authority.holder)

/-- The pending claim is cleared and the holder keeps authority (R161, R163). -/
def State.clearClaim (s : State) : State := { s with authority := { s.authority with claim := none } }

/-- The pending claim has waited the yield timeout in force (R162). -/
def State.claimOver (s : State) : Bool := s.authority.claim.any fun c => s.ranFor c.stamp s.site.yieldTimeout

/-- CLAIM_TIMEOUT (R162): the claimant becomes holder. -/
def execClaimTimeout (s : State) : Host.Outcome State Fault Refusal :=
  .next (match s.authority.claim with
    | some c => if s.claimOver = true then s.setHolder (some c.claimant) 2 else s
    | none => s)

/-- What a port's silence does to the authority record (R163). -/
def State.silenceAuthority (s : State) (p : Port) : State :=
  if s.authority.holder = some p then s.setHolder (s.authority.claim.map Claim.claimant) 3
  else match s.authority.claim with
    | some c => if c.claimant = p then s.clearClaim else s
    | none => s

/-- Lock `i` is FULL and its life has run (R168); expiry 0 does not expire. -/
def State.lockExpired (s : State) (i : Nat) : Bool :=
  (s.lock i).any fun k => 0 < k.expiry && s.ranFor k.placed (60 * k.expiry)

/-- OVERRIDE_EXPIRY (R168). -/
def execOverrideExpiry (lock : Fin 48) (s : State) : Host.Outcome State Fault Refusal :=
  .next (if s.lockExpired lock = true then s.releaseLock lock 1 else s)

end Sys2Proof.Machine
end

