-- ==== Sys2Proof/Machine/LinkUnit.lean ====
section
/-! DEFINITION. Link Records (12): the ports' baud search and silence, what a frame does to its port, how a request is
decided and answered, and the rows FRAME_DISCARD, FRAME_BYTE_TIMEOUT, FRAME_NOT_ADDRESSED, UNKNOWN_KIND,
BAUD_SEARCH_DWELL, SILENCE_TIME_EXPIRY, NOTICE and SEND_COMPLETE. -/

namespace Sys2Proof.Machine

/-! ### The baud search (R172) -/

/-- The next rate of the cycle (R172). -/
def Rate.next : Rate → Rate
  | .r9600 => .r19200
  | .r19200 => .r38400
  | .r38400 => .r115200
  | .r115200 => .r9600

/-- The next dwell of the search begins, at the next rate (R172). -/
def PortRec.nextDwell (now : Nat) (p : PortRec) : PortRec := { p with rate := p.rate.next, dwellStart := now }

/-- A searching port has listened for 1 s at its present rate (R172). -/
def State.dwellOver (s : State) (p : Port) : Bool := !(s.port p).alive && s.ranFor (s.port p).dwellStart 1

/-- BAUD_SEARCH_DWELL (R172). -/
def execBaudSearchDwell (port : Port) (s : State) : Host.Outcome State Fault Refusal :=
  .next (if s.dwellOver port = true then s.updPort port (PortRec.nextDwell s.now) else s)

/-- A valid frame acts on its port (R172): it stamps the last-frame time, and on a searching port it locks the rate. -/
def PortRec.takeFrame (now : Nat) (p : PortRec) : PortRec := { p with alive := true, lastFrame := some now }

/-- A frame is discarded without reply (R173): an ALIVE port is left as it stands, and a searching port, which received
the frame to its end, begins its next dwell (R172; DEDUCED, log 10). -/
def PortRec.discard (now : Nat) (p : PortRec) : PortRec := if p.alive = true then p else p.nextDwell now

/-- FRAME_DISCARD (R173), whichever cause. -/
def execFrameDiscard (port : Port) (_cause : DiscardCause) (s : State) : Host.Outcome State Fault Refusal :=
  .next (s.updPort port (PortRec.discard s.now))

/-- FRAME_BYTE_TIMEOUT (R173). -/
def execFrameByteTimeout (port : Port) (s : State) : Host.Outcome State Fault Refusal :=
  .next (s.updPort port (PortRec.discard s.now))

/-- FRAME_NOT_ADDRESSED (R173): not taken, but a valid frame, unless it arrives while the part is sending. -/
def execFrameNotAddressed (s : State) : Host.Outcome State Fault Refusal :=
  .next (s.updPort .supervisor
    (if s.link.sup.sending = true then PortRec.discard s.now else PortRec.takeFrame s.now))

/-! ### Silence (R172) -/

/-- A port's silence time (R172). -/
def SiteConfig.silenceTime (c : SiteConfig) : Port → Nat
  | .supervisor => c.supSilence
  | .panel => c.panSilence

/-- An ALIVE port has been without a valid frame for its silence time (R172). -/
def State.silenceDue (s : State) (p : Port) : Bool :=
  (s.port p).alive && (s.port p).lastFrame.any fun t => s.ranFor t (s.site.silenceTime p)

/-- A port becomes SILENT (R172): it searches from the rate it had locked, PORT_SILENT is queued, the Authority Unit acts
(R163, R169), and on the Panel Port notices become OFF. -/
def State.goSilent (s : State) (p : Port) : State :=
  let s1 := s.updPort p fun r => { r with alive := false, dwellStart := s.now }
  let s2 := s1.raise .portSilent (partyCode (some p)) (s.site.silenceTime p)
  let s3 := (s2.silenceAuthority p).releaseLocks (fun k => k.owner = p) 2
  if p = .panel then { s3 with link := { s3.link with notices := false } } else s3

/-- SILENCE_TIME_EXPIRY (R172). -/
def execSilenceTimeExpiry (port : Port) (s : State) : Host.Outcome State Fault Refusal :=
  .next (if s.silenceDue port = true then s.goSilent port else s)

/-! ### Sending (R173, R177) -/

/-- A frame the part formed is a notice (12, Message kinds: kind E0h). -/
def TxFrame.isNotice (f : TxFrame) : Bool := f.kind == 0xE0

/-- The reply frame to a request of kind `kind` (R173): the station address, the kind with bit 7 set, and a payload that
begins with the status byte. -/
def replyFrame (station kind : Nat) (r : Reply) : TxFrame :=
  { address := station, kind := kind % 128 + 128, payload := u8 r.status.code ++ r.data }

/-- A frame formed after the first `n` frames of the port and before the rest, with sending begun (R177). -/
def PortRec.formAt (n : Nat) (f : TxFrame) (p : PortRec) : PortRec :=
  { p with tx := p.tx.take n ++ f :: p.tx.drop n, sending := true }

/-- NOTICE (R177): the notice at the head of the panel's frames is sent once the port is free. -/
def execNotice (s : State) : Host.Outcome State Fault Refusal :=
  .next (if s.link.pan.sending = false ∧ s.link.pan.tx ≠ [] then
    s.updPort .panel fun p => { p with sending := true } else s)

/-- The frame being sent is finished; a reply formed after it follows at once, a notice by its own NOTICE (log 9). -/
def PortRec.sent (p : PortRec) : PortRec :=
  { p with tx := p.tx.drop 1, sending := (p.tx.drop 1).head?.any fun f => !f.isNotice }

/-- SEND_COMPLETE (R173): the half-duplex sending state of the frame ends. -/
def execSendComplete (port : Port) (s : State) : Host.Outcome State Fault Refusal :=
  .next (if (s.port port).sending = true then s.updPort port PortRec.sent else s)

/-! ### Deciding a request (R173, R174) -/

/-- A request answered with a status alone, changing no state: a refusal, or an answer without effect (R174). -/
def answer (st : Status) (s : State) : State × Reply := (s, { status := st, data := [] })

/-- A request taken with its data and its effects. -/
def taken (data : List Byte) (s : State) : State × Reply := (s, { status := .ok, data := data })

/-- The refusal by port and authority class that meets a request, if one does (R164). -/
def State.accessRefusal (s : State) (p : Port) : Access → Option Status
  | .panelOnly => if p = .supervisor then some .wrongPort else none
  | .gated => if s.authority.holder = some p then none else some .notHolder
  | .anyPort => none

/-- A request is discarded with its frame: it arrives while the part is sending on the port, or its payload is longer
than a frame carries (R173). -/
def State.discards (s : State) (p : Port) (payload : List Byte) : Bool :=
  (s.port p).sending || 200 < payload.length

/-- A valid frame that is taken: it acts on its port, `body` decides it and takes its effects, and its one reply is
formed before the notices of the events those effects raised (R172, R173, R177). -/
def State.respond (s : State) (p : Port) (kind : Nat) (body : State → State × Reply) : State :=
  let s1 := s.updPort p (PortRec.takeFrame s.now)
  let r := body s1
  r.1.updPort p (PortRec.formAt (s1.port p).tx.length (replyFrame s.site.station kind r.2))

/-- A request of kind `k` with its own checks and effects `body` (R174): discarded, refused by its class, or decided. -/
def State.serve (s : State) (p : Port) (k : RequestKind) (payload : List Byte) (body : State → State × Reply) : State :=
  if s.discards p payload = true then s.updPort p (PortRec.discard s.now)
  else s.respond p k.code fun t =>
    match t.accessRefusal p k.access with
    | some st => answer st t
    | none => body t

/-- A body whose payload must have a given length, refused with BAD_LENGTH otherwise (R174). -/
def withLength (n : Nat) (payload : List Byte) (body : State → State × Reply) (s : State) : State × Reply :=
  if payload.length ≠ n then answer .badLength s else body s

/-- UNKNOWN_KIND (R174): refused before the port and authority classes. -/
def execUnknownKind (port : Port) (kind : Byte) (payload : List Byte) (s : State) : Host.Outcome State Fault Refusal :=
  .next (if s.discards port payload = true then s.updPort port (PortRec.discard s.now)
    else s.respond port kind.toNat (answer .unknownKind))

end Sys2Proof.Machine
end

