-- ==== Sys2Proof/Machine/AuthorityRequests.lean ====
section
/-! DEFINITION. The requests of the Authority Unit (11): CLAIM, YIELD, DECLINE, OVERRIDE SET, OVERRIDE RELEASE and
OVERRIDE BREAK. -/

namespace Sys2Proof.Machine

/-! ### Claiming, yielding and declining (R160, R161) -/

/-- CLAIM's outcome by the authority record as the claim finds it (R160). -/
def State.claimBody (p : Port) (s : State) : State × Reply :=
  match s.authority.holder with
  | none => taken [] (s.setHolder (some p) 0)
  | some h =>
    if h = p then answer .held s
    else match s.authority.claim with
      | some _ => answer .pending s
      | none =>
        answer .pending
          (({ s with authority := { s.authority with claim := some ⟨p, s.now⟩ } } : State).raiseTo h .claimPending
            (partyCode (some p)) s.site.yieldTimeout)

/-- CLAIM (R160). -/
def execClaim (port : Port) (payload : List Byte) (s : State) : Host.Outcome State Fault Refusal :=
  .next (s.serve port .claim payload (withLength 0 payload (State.claimBody port)))

/-- The holder's answer to a pending claim, `act` on the claim where there is one (R161). -/
def State.answerClaim (p : Port) (act : Claim → State → State) (s : State) : State × Reply :=
  if s.authority.holder ≠ some p then answer .notHolder s
  else match s.authority.claim with
    | none => answer .noClaim s
    | some c => taken [] (act c s)

/-- YIELD (R161): the claimant becomes holder. -/
def execYield (port : Port) (payload : List Byte) (s : State) : Host.Outcome State Fault Refusal :=
  .next (s.serve port .yield payload
    (withLength 0 payload (State.answerClaim port fun c t => t.setHolder (some c.claimant) 1)))

/-- DECLINE (R161): the claim is cleared, with CLAIM_DECLINED to the claimant's port alone. -/
def execDecline (port : Port) (payload : List Byte) (s : State) : Host.Outcome State Fault Refusal :=
  .next (s.serve port .decline payload
    (withLength 0 payload (State.answerClaim port fun c t =>
      t.clearClaim.raiseTo c.claimant .claimDeclined (partyCode (some port)) 0)))

/-! ### Override locks (R166, R167) -/

/-- The value a lock of function `f` holds at most (R165). -/
def lockMax (f : Nat) : Nat := if f = 0 then 100 else 3

/-- The bytes of a lock in the reply to OVERRIDE SET (12). -/
def Lock.bytes (k : Lock) : List Byte :=
  u8 (partyCode (some k.owner)) ++ u8 k.value ++ u16 k.expiry ++ yesNo k.atHandover

/-- The reply LOCKED with the owner's party code (R174). -/
def lockedBy (owner : Port) (s : State) : State × Reply :=
  (s, { status := .locked, data := u8 (partyCode (some owner)) })

/-- The lock an OVERRIDE SET from `p` places, its value and expiry clamped (R166). -/
def State.newLock (s : State) (p : Port) (f value expiry flag : Nat) : Lock :=
  { owner := p, value := min (lockMax f) value, expiry := min 480 expiry, placed := s.now, atHandover := flag = 1 }

/-- The lock is placed or replaced, and the reply carries it (R166). -/
def State.placeLock (p : Port) (i f value expiry flag : Nat) (s : State) : State × Reply :=
  let k := s.newLock p f value expiry flag
  (s.setLock i (some k),
    { status := if lockMax f < value ∨ 480 < expiry then .clamped else .ok, data := k.bytes })

/-- OVERRIDE SET's own checks after its length, in the order of R166, and its effect. -/
def State.overrideSetBody (p : Port) (b : List Byte) (s : State) : State × Reply :=
  let z := rd8 b 0
  let f := rd8 b 1
  let i := 3 * z + f
  if 15 < z ∨ 2 < f ∨ 1 < rd8 b 5 then answer .badReference s
  else if s.enabled z = false then answer .badReference s
  else if s.running = false then answer .notRunning s
  else match s.lock i with
    | some k =>
      if k.owner ≠ p then lockedBy k.owner s else s.placeLock p i f (rd8 b 2) (rd16 b 3) (rd8 b 5)
    | none => s.placeLock p i f (rd8 b 2) (rd16 b 3) (rd8 b 5)

/-- OVERRIDE SET (R166). -/
def execOverrideSet (port : Port) (payload : List Byte) (s : State) : Host.Outcome State Fault Refusal :=
  .next (s.serve port .overrideSet payload (withLength 6 payload (State.overrideSetBody port payload)))

/-- The checks OVERRIDE RELEASE and OVERRIDE BREAK share after their length: a zone and a function that exist (R167). -/
def onLock (b : List Byte) (act : Nat → State → State × Reply) (s : State) : State × Reply :=
  if 15 < rd8 b 0 ∨ 2 < rd8 b 1 then answer .badReference s else act (3 * rd8 b 0 + rd8 b 1) s

/-- OVERRIDE RELEASE by the lock's state (R167): its owner empties it, without an event. -/
def State.releaseByOwner (p : Port) (i : Nat) (s : State) : State × Reply :=
  match s.lock i with
  | none => taken [] s
  | some k => if k.owner = p then taken [] (s.setLock i none) else lockedBy k.owner s

/-- OVERRIDE RELEASE (R167). -/
def execOverrideRelease (port : Port) (payload : List Byte) (s : State) : Host.Outcome State Fault Refusal :=
  .next (s.serve port .overrideRelease payload (withLength 2 payload (onLock payload (State.releaseByOwner port))))

/-- OVERRIDE BREAK (R167): the lock is emptied whatever its owner, with reason BREAK. -/
def execOverrideBreak (port : Port) (payload : List Byte) (s : State) : Host.Outcome State Fault Refusal :=
  .next (s.serve port .overrideBreak payload
    (withLength 2 payload (onLock payload fun i t => taken [] (t.releaseLock i 5))))

end Sys2Proof.Machine
end

