-- ==== Sys2Proof/Machine/OutputUnit.lean ====
section
/-! DEFINITION. Switched Outputs, Beacons and Dimming Channels (10): controlled energy, the ends of holds and tests, the
pattern generators, and the rows CONTROLLED_ENERGY_SECOND, MIN_ON_END, MIN_OFF_END, OUTPUT_TEST_END and
BEACON_PATTERN_HALF. -/

namespace Sys2Proof.Machine

/-! ### Controlled energy (R153) -/

/-- The watts of the load outputs whose Drive is ON (R153). -/
def State.drivenWatts (s : State) : Nat :=
  (((List.range 40).filter fun o => s.isLoad o && (s.out o).drive).map fun o => (s.outCfg o).watts).sum

/-- The lighting watts of the enabled zones at their present levels (R153), with the rated watts in force: a written
value is used from the zone's next lighting step (R87; log 47). -/
def State.lightingWatts (s : State) : Nat :=
  (((List.range 16).filter s.enabled).map fun z => wattsAt (s.zone z).light.rated (s.zone z).light.present).sum

/-- CONTROLLED_ENERGY_SECOND (R153): while RUNNING the second's two sums are added; while STOPPED nothing is. -/
def execControlledEnergySecond (s : State) : Host.Outcome State Fault Refusal :=
  .next (if s.running = true then
    s.updAlloc fun a => { a with wattSeconds := a.wattSeconds + s.drivenWatts + s.lightingWatts }
  else s)

/-! ### Holds (R150) -/

/-- The MIN_ON hold of output `o` has run its time in force (R150). -/
def State.minOnOver (s : State) (o : Nat) : Bool :=
  (s.out o).hold == .minOn && (s.out o).lastOn.any fun t => s.ranFor t (s.outCfg o).minOn

/-- The MIN_OFF hold of output `o` has run its time in force (R150). -/
def State.minOffOver (s : State) (o : Nat) : Bool :=
  (s.out o).hold == .minOff && (s.out o).lastOff.any fun t => s.ranFor t (s.outCfg o).minOff

/-- The end of MIN_ON (R150): the hold becomes NONE, and a grant that only the hold kept lapses. -/
def OutputRec.endMinOn (now : Nat) (c : OutputConfig) (r : OutputRec) : OutputRec :=
  if r.request = none then { r with hold := .none }.lapse now c else { r with hold := .none }

/-- MIN_ON_END (R150). -/
def execMinOnEnd (output : Fin 40) (s : State) : Host.Outcome State Fault Refusal :=
  .next (if s.minOnOver output = true then s.updOut output (OutputRec.endMinOn s.now (s.outCfg output)) else s)

/-- MIN_OFF_END (R150). -/
def execMinOffEnd (output : Fin 40) (s : State) : Host.Outcome State Fault Refusal :=
  .next (if s.minOffOver output = true then s.updOut output fun r => { r with hold := .none } else s)

/-! ### Tests (R157) -/

/-- The end of output `o`'s test has been reached (R157). -/
def State.testOver (s : State) (o : Nat) : Bool := (s.out o).testEnd.any fun e => e ≤ s.now

/-- OUTPUT_TEST_END (R157). -/
def execOutputTestEnd (output : Fin 40) (s : State) : Host.Outcome State Fault Refusal :=
  .next (if s.testOver output = true then s.updOut output (OutputRec.endTest s.now (s.outCfg output)) else s)

/-! ### Beacon patterns (R155) -/

/-- BEACON_PATTERN_HALF (R155): the generator's half ends, and every beacon showing its pattern toggles with it. -/
def execBeaconPatternHalf (pattern : BeaconPattern) (s : State) : Host.Outcome State Fault Refusal :=
  .next (match pattern with
    | .slow => { s with slowOn := !s.slowOn }
    | .fast => { s with fastOn := !s.fastOn })

end Sys2Proof.Machine
end

