-- ==== Sys2Proof/Machine/Allocator.lean ====
section
/-! DEFINITION. Demand Window and Load Allocation (09): meter pulses, the demand window, the budget, the tiered grants of
a round, and the rows ALLOCATION_ROUND, METER_SILENCE_EXPIRY and WINDOW_END. -/

namespace Sys2Proof.Machine

/-! ### Meter pulses (R130, R137) -/

/-- A meter pulse of line `l` is taken (R130): while RUNNING it counts in the window and the period and stamps the
last-pulse time, and while the meter is LOST it recovers the meter (R137). While STOPPED it is discarded. -/
def State.meterPulse (s : State) (l : Nat) : State :=
  if s.running = true then
    let s1 := s.updAlloc fun a =>
      { a with window := a.window.map fun w => { w with pulses := w.pulses + 1 }, pulses := a.pulses + 1,
               lastPulse := some s.now, meterLost := false }
    if s.alloc.meterLost = true then s1.raise .meterRecovered l 0 else s1
  else s

/-! ### The effective cap and the target (R134) -/

/-- capW: the demand cap of the context in force in watts, taken no higher than the site ceiling (R134). -/
def State.capWatts (s : State) : Nat :=
  min (1000 * (((s.programme.inForce.bind s.context).map Context.cap).getD 0)) (1000 * s.site.ceiling)

/-- capW_eff: the cap under the shed state (R134). -/
def State.capEff (s : State) : Nat :=
  if s.shed = true then s.capWatts * (100 - s.site.shedPct) / 100 else s.capWatts

/-- E_target of a window (R134). -/
def State.windowTarget (s : State) (w : Window) : Nat := s.capEff * w.len / 3600

/-! ### The demand window (R131, R132) -/

/-- The next aligned boundary after minute `m`, 10080 standing for the minute 0 that ends the week (R131); `k` is W/60. -/
def nextBoundary (k m : Nat) : Nat := min 10080 (k * (m / k + 1))

/-- The length of a window opened with the clock VALID at a minute and second of the week (R131). -/
def alignedLen (k minute second : Nat) : Nat :=
  let b := nextBoundary k minute
  let rest := 60 * b - (60 * minute + second)
  if rest < 60 then rest + 60 * (nextBoundary k (b % 10080) - b % 10080) else rest

/-- The window opened now (R131): on the SITE base with the clock VALID, otherwise on the ELAPSED base for W seconds. Its
E_target is first computed at its first round and reads 0 until then (DESIGN CHOICE, log 43). -/
def State.newWindow (s : State) : Window :=
  if s.clock.valid = true then
    { base := .site, start := s.weekSecond,
      len := alignedLen (s.site.windowLen / 60) s.clock.minute s.clock.second,
      pulses := 0, target := 0, overRaised := false }
  else
    { base := .elapsed, start := s.now, len := s.site.windowLen, pulses := 0, target := 0, overRaised := false }

/-- A window opens (R131). -/
def State.openWindow (s : State) : State := s.updAlloc fun a => { a with window := some s.newWindow }

/-- A rotation pointer advanced by one position of a list of `n` entries (R140). -/
def advancePointer (ptr n : Nat) : Nat := if n = 0 then 0 else (ptr + 1) % n

/-- Each rotation pointer advances (R132, R140). -/
def State.rotate (s : State) : State :=
  s.updAlloc fun a =>
    { a with rot1 := advancePointer a.rot1 (s.rotationList 1).length
             rot2 := advancePointer a.rot2 (s.rotationList 2).length
             rot3 := advancePointer a.rot3 (s.rotationList 3).length }

/-- The whole seconds the open window has run, 0 where none is open (R132). -/
def State.windowRan (s : State) : Nat := (s.alloc.window.map s.windowTime).getD 0

/-- The last-window record of a window that has run `ran` seconds and ends or closes now (R132, steps 1 and 2). -/
def State.lastOf (s : State) (w : Window) (short : Bool) (ran : Nat) : LastWindow :=
  { used := s.windowUsed w, target := s.windowTarget w, exceeded := s.windowTarget w < s.windowUsed w, len := w.len,
    ran := ran, short := short }

/-- The window ends, or closes short by SET CLOCK or STOP, having run `ran` seconds (R132, steps 1 to 4). SET CLOCK has
moved the clock by then, so the seconds run are the caller's (R66). -/
def State.closeWindow (s : State) (short : Bool) (ran : Nat) : State :=
  match s.alloc.window with
  | none => s
  | some w =>
    let last := s.lastOf w short ran
    let s1 := s.updAlloc fun a => { a with window := none, last := last }
    (s1.raise .windowClosed (if short then 1 else 0) (saturate16 (last.used * 100 / last.target))).rotate

/-- The open window's time base has reached its end (R132). -/
def State.windowOver (s : State) : Bool := s.running && s.alloc.window.any fun w => w.len ≤ s.windowTime w

/-- WINDOW_END (R132): the window's time base has reached its end, and the next window opens at once. -/
def execWindowEnd (s : State) : Host.Outcome State Fault Refusal :=
  .next (if s.windowOver = true then (s.closeWindow false s.windowRan).openWindow else s)

/-! ### The meter test (R137) -/

/-- Cavg of the period gathered so far (R136). -/
def State.cavg (s : State) : Nat := s.alloc.wattSeconds / s.site.period

/-- The meter is silent with controlled load drawing (R137). -/
def State.meterSilent (s : State) : Bool :=
  s.site.meterSilence != 0 && (s.alloc.lastPulse.any fun p => s.ranFor p s.site.meterSilence) && 0 < s.cavg

/-- The METER_LOST event's value: the seconds since the last-pulse time, saturating (R145). -/
def State.silentSeconds (s : State) : Nat := saturate16 ((s.alloc.lastPulse.map s.secondsSince).getD 0)

/-- The meter test of a round (R137): on the change to LOST, METER_LOST is queued. -/
def State.testMeter (s : State) : State :=
  if s.running = true ∧ s.alloc.meterLost = false ∧ s.meterSilent = true then
    (s.updAlloc fun a => { a with meterLost := true }).raise .meterLost (s.meterLine.getD 255) s.silentSeconds
  else s

/-- METER_SILENCE_EXPIRY (R137). -/
def execMeterSilenceExpiry (s : State) : Host.Outcome State Fault Refusal := .next s.testMeter

/-! ### The budget (R135 to R137) -/

/-- What a round's budget is formed from and comes to. -/
structure Budget where
  /-- P_allow -/
  allow : Nat
  /-- M -/
  measured : Nat
  /-- U_est -/
  uEst : Nat
  /-- B -/
  budget : Nat
  /-- E_used has reached E_target, tested with the meter OK -/
  exceeded : Bool
  deriving DecidableEq, Repr

/-- P_allow (R135). -/
def State.allowedPower (s : State) (w : Window) : Nat :=
  if s.windowTarget w ≤ s.windowUsed w then 0
  else min (1000 * s.site.ceiling)
    ((s.windowTarget w - s.windowUsed w) * 3600 / max (w.len - s.windowTime w) 60)

/-- M (R136). -/
def State.measuredPower (s : State) : Nat := s.alloc.pulses * s.site.pulseWeight * 3600 / s.site.period

/-- U_est (R136). -/
def State.nextEstimate (s : State) : Nat := (3 * s.alloc.uEst + (s.measuredPower - s.cavg)) / 4

/-- The budget of a round (R135, R136), or the fallback budget while the meter is LOST, when P_allow and M are not formed
and keep their last values in the record (R137; DEDUCED, log 24). -/
def State.budgetOf (s : State) (w : Window) : Budget :=
  if s.alloc.meterLost = true then
    { allow := s.alloc.record.allow, measured := s.alloc.record.measured, uEst := s.alloc.uEst,
      budget := s.capEff - 1000 * s.site.assumedBase, exceeded := false }
  else
    { allow := s.allowedPower w, measured := s.measuredPower, uEst := s.nextEstimate,
      budget := s.allowedPower w - s.nextEstimate, exceeded := s.windowTarget w ≤ s.windowUsed w }

/-! ### Tier 0 (R139) -/

/-- A switched entry granted first whatever the budget: requested at tier 0, or in its minimum-on hold (R139). -/
def State.grantedFirst (s : State) (o : Nat) : Bool :=
  s.isLoad o && ((s.out o).request == some 0 || s.inMinOn o)

/-- T0: the watts of the tier 0 loads (R139). -/
def State.tier0Watts (s : State) : Nat :=
  (((List.range 40).filter s.grantedFirst).map fun o => (s.outCfg o).watts).sum +
  (((List.range 16).filter s.enabled).map fun z => (s.zone z).light.tier0).sum

/-! ### Tiers 1 to 3 (R140 to R143) -/

/-- A round's visits so far: the remaining budget, the outputs granted, the trim watts granted, the zones whose fan
chain has been taken, whether the tier being visited is short, and whether a partly granted trim has spent the rest of the
budget, so that every entry visited after it is refused (R143). -/
structure Visit where
  remaining : Nat
  granted : List Nat
  trims : List (Nat × Nat)
  chains : List Nat
  short : Bool
  spent : Bool
  deriving DecidableEq, Repr

/-- Output `o` is granted and its watts taken from the remaining budget (R141). -/
def Visit.grant (v : Visit) (o watts : Nat) : Visit :=
  { v with remaining := v.remaining - watts, granted := o :: v.granted }

/-- A visited load is refused, and its tier is short (R141). -/
def Visit.refuse (v : Visit) : Visit := { v with short := true }

/-- A switched entry of `watts` fits (R141, R143): no earlier tier was short, no trim has spent the budget, and its watts
are at most what remains. -/
def Visit.fits (v : Visit) (blocked : Bool) (watts : Nat) : Bool := !blocked && !v.spent && watts ≤ v.remaining

/-- A switched entry is taken first fit (R141); `blocked` says an earlier tier was short. -/
def State.visitSwitched (s : State) (blocked : Bool) (v : Visit) (o : Nat) : Visit :=
  if (s.out o).hold = .minOff then v
  else if v.fits blocked (s.outCfg o).watts = true then v.grant o (s.outCfg o).watts
  else v.refuse

/-- The output of stage `n` of zone `z`. -/
def State.stageOutput (s : State) (z n : Nat) : Option Nat := (List.range 40).find? (s.servesUnit .fan z n)

/-- A zone's fan stages requested at tier 1, taken in ascending order until one is refused or in its minimum-off hold
(R142). -/
def State.visitChain (s : State) (blocked : Bool) (z : Nat) : List Nat → Visit → Visit
  | [], v => v
  | n :: rest, v =>
    match s.stageOutput z n with
    | none => v
    | some o =>
      if (s.out o).request ≠ some 1 ∨ s.grantedFirst o = true then s.visitChain blocked z rest v
      else if (s.out o).hold = .minOff then v
      else if v.fits blocked (s.outCfg o).watts = true then
        s.visitChain blocked z rest (v.grant o (s.outCfg o).watts)
      else v.refuse

/-- A LIGHT entry's trim part is taken (R143). One that finds nothing remaining is granted 0 W and refused, and counts as
partly granted: every entry visited after it is refused, a load of 0 W among them (DEDUCED, log 49). -/
def State.visitTrim (s : State) (blocked : Bool) (v : Visit) (z : Nat) : Visit :=
  let trim := (s.zone z).light.trim
  if blocked = true then { v with trims := (z, 0) :: v.trims, short := true }
  else if trim ≤ v.remaining then { v with trims := (z, trim) :: v.trims, remaining := v.remaining - trim }
  else { v with trims := (z, v.remaining) :: v.trims, remaining := 0, short := true, spent := true }

/-- The visit of tier `k` reaches an entry (R140 to R143). A switched entry's tier is that of the request its controller
last placed (R138): a tier written since (R147) shows with the next evaluation's request (DEDUCED, log 44). A LIGHT
entry's is the trim tier of its standing request (R93). -/
def State.visitLoad (s : State) (k : Nat) (blocked : Bool) (v : Visit) : Load → Visit
  | .switched o =>
    if (s.out o).request ≠ some k ∨ s.grantedFirst o = true then v
    else match (s.outCfg o).function, (s.outCfg o).ref with
      | .fan, .zone z _ =>
        if k ≠ 1 then s.visitSwitched blocked v o
        else if z ∈ v.chains then v
        else s.visitChain blocked z [1, 2, 3] { v with chains := z :: v.chains }
      | _, _ => s.visitSwitched blocked v o
  | .light z =>
    if (s.zone z).light.trimTier ≠ k ∨ (s.zone z).light.trim = 0 then v else s.visitTrim blocked v z

/-- The load list from the entry at tier `k`'s rotation pointer on, wrapping; from entry 0 where the rotation list is
empty (R140). -/
def State.visitOrder (s : State) (k ptr : Nat) : List Load :=
  let rl := s.rotationList k
  let start := rl.getD (ptr % rl.length) 0
  s.loadList.drop start ++ s.loadList.take start

/-- The visit of tier `k` (R140). -/
def State.visitTier (s : State) (k ptr : Nat) (blocked : Bool) (v : Visit) : Visit :=
  (s.visitOrder k ptr).foldl (s.visitLoad k blocked) { v with chains := [], short := false }

/-- The grants of tiers 1, 2 and 3 from a remaining budget, with the tiers found short (R141). -/
structure Grants where
  remaining : Nat
  granted : List Nat
  trims : List (Nat × Nat)
  short1 : Bool
  short2 : Bool
  short3 : Bool
  deriving DecidableEq, Repr

/-- Tiers 1, 2 and 3 in turn; once a tier is short, every entry a later tier reaches is refused (R141). -/
def State.visitTiers (s : State) (remaining : Nat) : Grants :=
  let v1 := s.visitTier 1 s.alloc.rot1 false
    { remaining := remaining, granted := [], trims := [], chains := [], short := false, spent := false }
  let v2 := s.visitTier 2 s.alloc.rot2 v1.short v1
  let v3 := s.visitTier 3 s.alloc.rot3 (v1.short || v2.short) v2
  { remaining := v3.remaining, granted := v3.granted, trims := v3.trims, short1 := v1.short, short2 := v2.short,
    short3 := v3.short }

/-- The watts a round granted to loads of tiers 1 to 3. -/
def State.grantedWatts (s : State) (g : Grants) : Nat :=
  (g.granted.map fun o => (s.outCfg o).watts).sum + (g.trims.map Prod.snd).sum

/-- The grant of a switched entry handed to the Output Unit at a round (R141, R145, R149). -/
def State.applyGrant (s : State) (granted : List Nat) (o : Nat) (r : OutputRec) : OutputRec :=
  if s.grantedFirst o = true then r.takeGrant s.now (s.outCfg o) true
  else if o ∈ granted then r.takeGrant s.now (s.outCfg o) false
  else r.lapse s.now (s.outCfg o)

/-- Every grant of a round handed on, and the granted trim watts of each enabled zone kept (R143, R145). -/
def State.applyGrants (s : State) (g : Grants) : State :=
  let s1 := s.forEach 40 fun o t => if s.isLoad o then t.updOut o (s.applyGrant g.granted o) else t
  s1.forEach 16 fun z t =>
    if s.enabled z then
      t.updZone z fun r => { r with light := { r.light with grantedTrim := (g.trims.lookup z).getD 0 } }
    else t

/-- The remaining budget for tiers 1 to 3: B − T0, or nothing where T0 exceeds B (R139). -/
def remainingBudget (budget tier0 : Nat) : Nat := budget - tier0

/-- The budget part of a round, up to its OVER_TARGET (R134 to R137). -/
def State.formBudget (s : State) (w : Window) (b : Budget) : State :=
  let raiseOver := b.exceeded && !w.overRaised
  let s1 := s.updAlloc fun a =>
    { a with window := some { w with target := s.windowTarget w, overRaised := w.overRaised || raiseOver },
             uEst := b.uEst }
  if raiseOver = true then s1.raise .overTarget 0 (s.windowTime w) else s1

/-- The record a round leaves, with the period measures cleared and the round timer set (R133, R145). -/
def State.recordRound (s : State) (w : Window) (b : Budget) (cavg tier0 : Nat) (g : Grants) : State :=
  s.updAlloc fun a =>
    { a with
        pulses := 0
        wattSeconds := 0
        nextRound := some (s.now + 100 * s.site.period)
        record :=
          { target := s.windowTarget w, used := s.windowUsed w, allow := b.allow, measured := b.measured,
            cavg := cavg, uEst := b.uEst, budget := b.budget, tier0 := tier0, short1 := g.short1,
            short2 := g.short2, short3 := g.short3, meterLost := a.meterLost, shed := s.shed } }

/-- The grants of a round: OVERRUN where T0 exceeds B, then tier 0 and tiers 1 to 3 (R139 to R143). -/
def State.grantRound (s : State) (w : Window) (b : Budget) (cavg : Nat) : State :=
  let t0 := s.tier0Watts
  let s1 := if b.budget < t0 then s.raise .overrun 0 (saturate16 ((t0 - b.budget) / 1000)) else s
  let g := s1.visitTiers (remainingBudget b.budget t0)
  (s1.applyGrants g).recordRound w b cavg t0 g

/-- An allocation round, taken while RUNNING (R133). -/
def State.round (s : State) : State :=
  match s.alloc.window with
  | none => s
  | some w =>
    if s.running = true then
      let s1 := s.testMeter
      let b := s1.budgetOf w
      (s1.formBudget w b).grantRound w b s.cavg
    else s

/-- ALLOCATION_ROUND (R133). -/
def execAllocationRound (s : State) : Host.Outcome State Fault Refusal := .next s.round

end Sys2Proof.Machine
end

