-- ==== Sys2Proof/Machine/Handover.lean ====
section
/-! DEFINITION. Shift Handover (05): taking a new target, the barrier and its arrivals, completion, retarget, cancel, and
handovers under fire mode; with the timed rows HANDOVER_RAMP_END and LATE_TEST. -/

namespace Sys2Proof.Machine

/-- The further effects of every completion (R80): both counts of every door reset, and the FULL locks flagged for
release at handover released. -/
def State.completionEffects (s : State) : State :=
  let s1 : State := { s with doors := s.doors.map fun d => { d with opens := 0, openSeconds := 0 } }
  s1.releaseLocks Lock.atHandover 3

/-- INCOMING becomes CURRENT and OUTGOING becomes STORED (R78, R79, R83). -/
def State.installCurrent (s : State) (c : Nat) : State := { s with programme := .current c }

/-- Normal completion (R78), or completion by fire mode with the fire flag set (R83). -/
def State.completeHandover (s : State) (h : Handover) (fireFlag : Bool) : State :=
  ((s.installCurrent h.incoming).raise .handoverDone h.incoming
    (h.elapsed + if fireFlag then 0x8000 else 0)).completionEffects

/-- A zone with all three participants arrived (R79). -/
def Marks.all (m : Marks) : Bool := m.light && m.heat && m.vent

/-- The late mask: 2 to the power z for each enabled zone z with a participant not arrived (R79, R86). -/
def State.lateMask (s : State) : Nat :=
  (List.range 16).foldl (fun acc z => if s.enabled z && !(s.zone z).marks.all then acc + 2 ^ z else acc) 0

/-- Late completion (R79). -/
def State.completeLate (s : State) (h : Handover) : State :=
  ((s.installCurrent h.incoming).raise .handoverLate h.incoming s.lateMask).completionEffects

/-- The arrival marks of every zone set to not arrived (R72, R82). -/
def State.clearMarks (s : State) : State := { s with zones := s.zones.map fun r => { r with marks := noMarks } }

/-- The present level of every zone, captured as the start levels P0 (R72, R82). -/
def State.levelsNow (s : State) : List Nat := s.zones.map fun r => r.light.present

/-- The handover ramp R of context `n`, in minutes. -/
def State.rampOf (s : State) (n : Nat) : Nat := ((s.context n).map Context.ramp).getD 0

/-- The handover grace G of context `n`, in minutes. -/
def State.graceOf (s : State) (n : Nat) : Nat := ((s.context n).map Context.grace).getD 0

/-- The value of HANDOVER_START (R86). -/
def startValue (outgoing : Nat) (cause : Cause) (retarget : Bool) : Nat :=
  outgoing + 16 * cause.code + if retarget then 256 else 0

/-- A handover from CURRENT `o` to `n` starts (R72); with no participants it completes at once. -/
def State.startHandover (s : State) (o n : Nat) (cause : Cause) : State :=
  let h : Handover :=
    { outgoing := o, incoming := n, cause := cause, elapsed := 0, ramp := s.rampOf n, grace := s.graceOf n,
      target := 3 * s.enabledZones, count := 0, startLevels := s.levelsNow }
  let s1 := ({ s with programme := .handover h } : State).clearMarks.raise .handoverStart n (startValue o cause false)
  if h.target = 0 then s1.completeHandover h false else s1

/-- A handover in progress takes another target (R82). -/
def State.retarget (s : State) (h : Handover) (n : Nat) (cause : Cause) : State :=
  let h' : Handover :=
    { h with incoming := n, cause := cause, elapsed := 0, ramp := s.rampOf n, grace := s.graceOf n, count := 0,
             startLevels := s.levelsNow }
  ({ s with programme := .handover h' } : State).clearMarks.raise .handoverStart n (startValue h.outgoing cause true)

/-- A handover in progress is cancelled (R81). -/
def State.cancelHandover (s : State) (h : Handover) : State :=
  ((s.installCurrent h.outgoing).raise .handoverCancelled h.outgoing h.incoming).releaseLocks Lock.atHandover 3

/-- A new target in fire mode starts and completes in the same event (R84). Its start clears the arrival marks, as R46 and
R80 have every start do, though R84's own list of effects does not name it (DEDUCED, log 46). -/
def State.swapInFire (s : State) (o n : Nat) (cause : Cause) : State :=
  (((s.clearMarks.raise .handoverStart n (startValue o cause false)).installCurrent n).raise .handoverDone n 0x8000).completionEffects

/-- The Shift Calendar Unit takes a new target `n` (R71). -/
def State.takeTarget (s : State) (n : Nat) (cause : Cause) : State :=
  match s.programme with
  | .none => s
  | .current o =>
    if n = o then s else if s.fire = true then s.swapInFire o n cause else s.startHandover o n cause
  | .handover h =>
    if n = h.incoming then s else if n = h.outgoing then s.cancelHandover h else s.retarget h n cause

/-- A participant's arrival mark. -/
def Marks.get (m : Marks) : ZoneFunction → Bool
  | .light => m.light
  | .heat => m.heat
  | .vent => m.vent

/-- A participant's arrival mark set. -/
def Marks.set (m : Marks) : ZoneFunction → Marks
  | .light => { m with light := true }
  | .heat => { m with heat := true }
  | .vent => { m with vent := true }

/-- A participant reports its arrival: its mark is set and counted once, and the count reaching the barrier target
completes the handover (R46, R74). With no handover in progress nothing is marked. -/
def State.arrive (s : State) (z : Nat) (f : ZoneFunction) : State :=
  match s.programme with
  | .handover h =>
    if (s.zone z).marks.get f = true then s
    else
      let h' : Handover := { h with count := h.count + 1 }
      let s1 := ({ s with programme := .handover h' } : State).updZone z fun r => { r with marks := r.marks.set f }
      if h'.count = h'.target then s1.completeHandover h' false else s1
  | _ => s

/-- The LIGHT arrival test (R75). -/
def Handover.lightDue (h : Handover) : Bool := 60 * h.ramp ≤ h.elapsed

/-- The handover ramp has run: LIGHT of zone `z` arrives (R75). -/
def State.lightArrival (s : State) (z : Nat) : State :=
  match s.programme with
  | .handover h => if h.lightDue = true then s.arrive z .light else s
  | _ => s

/-- HANDOVER_RAMP_END (R75): elapsed has reached 60 × R, so LIGHT of every enabled zone arrives. -/
def execHandoverRampEnd (s : State) : Host.Outcome State Fault Refusal :=
  .next (s.forEach 16 fun z s => if s.enabled z then s.lightArrival z else s)

/-- The late test (R79). -/
def State.lateTest (s : State) : State :=
  match s.programme with
  | .handover h => if 60 * (h.ramp + h.grace) ≤ h.elapsed then s.completeLate h else s
  | _ => s

/-- LATE_TEST (R79). -/
def execLateTest (s : State) : Host.Outcome State Fault Refusal := .next s.lateTest

/-- The handover timer's advance, once per whole second while IN_PROGRESS (R73). -/
def Programme.advance : Programme → Programme
  | .handover h => .handover { h with elapsed := h.elapsed + 1 }
  | p => p

end Sys2Proof.Machine
end

