-- ==== Sys2Proof/Machine/Calendar.lean ====
section
/-! DEFINITION. Site Clock, Calendar and Context Store (04): counting a site second, the look-ahead read, purge and preheat
timing, the due event and the look-back, and the rows LOOK_AHEAD_READ, DUE_EVENT, PURGE_LEAD_REACHED and
PREHEAT_LEAD_REACHED. -/

namespace Sys2Proof.Machine

/-! ### The site clock (R49) -/

/-- One site second counted, wrapping at the minute and at the week (R49). -/
def SiteClock.count (c : SiteClock) : SiteClock :=
  if c.second < 59 then { c with second := c.second + 1 }
  else { c with second := 0, minute := if c.minute < 10079 then c.minute + 1 else 0 }

/-- The microseconds of a site second at a trim (R49). -/
def secondLength (trim : Int) : Nat := (1000000 - trim).toNat

/-- A site second is counted when the elapsed-time base has run its length (R49). -/
def SiteClock.due (c : SiteClock) : Bool := c.secondLen ≤ c.phase

/-- 10 ms of the elapsed-time base pass (R49); a new trim applies from the next site second (R50). -/
def SiteClock.run (trim : Int) (c : SiteClock) : SiteClock :=
  let c1 := { c with phase := c.phase + 10000 }
  if c1.due = true then { c1.count with phase := c1.phase - c1.secondLen, secondLen := secondLength trim } else c1

/-! ### Purge and preheat timing (R63, R64) -/

/-- The queue with the entry of slot `k` changed by `f`; no two entries hold the same slot (R61). -/
def State.updEntry (s : State) (k : Nat) (f : QueueEntry → QueueEntry) : State :=
  { s with queue := s.queue.map fun e => if e.slot = k then f e else e }

/-- A purge request of context `c`'s purge duration for each enabled zone it lists (R63). -/
def State.purgeContext (s : State) (c : Nat) : State :=
  match s.context c with
  | none => s
  | some k => k.entries.foldl (fun t e => t.purgeRequest e.zone k.purgeDur) s

/-- The purge of an entry starts (R63). -/
def State.startPurge (s : State) (e : QueueEntry) : State :=
  (s.updEntry e.slot fun x => { x with purgeStarted := true }).purgeContext e.context

/-- The purge lead and preheat lead of an entry's context, read at each test (R63, R64). -/
def State.purgeLeadOf (s : State) (e : QueueEntry) : Nat := ((s.context e.context).map Context.purgeLead).getD 0
/-- The preheat lead of an entry's context. -/
def State.preheatLeadOf (s : State) (e : QueueEntry) : Nat := ((s.context e.context).map Context.preheatLead).getD 0

/-- The purge timing of an entry (R63): a lead above 0 that the time to due has reached starts the purge. -/
def State.testPurge (s : State) (e : QueueEntry) : State :=
  if e.purgeStarted = false ∧ 0 < s.purgeLeadOf e ∧ s.timeToDue e ≤ 60 * s.purgeLeadOf e then s.startPurge e else s

/-- The preheat timing of an entry (R64): a lead above 0 that the time to due has reached starts the preheat; with lead 0
it never runs. -/
def State.testPreheat (s : State) (e : QueueEntry) : State :=
  if e.preheating = false ∧ 0 < s.preheatLeadOf e ∧ s.timeToDue e ≤ 60 * s.preheatLeadOf e then
    s.updEntry e.slot fun x => { x with preheating := true }
  else s

/-- The entry of slot `k` put to a test. -/
def State.testEntry (s : State) (k : Nat) (test : State → QueueEntry → State) : State :=
  match s.queue.find? fun e => e.slot == k with
  | none => s
  | some e => if s.calendarRuns = true then test s e else s

/-- PURGE_LEAD_REACHED (R63). -/
def execPurgeLeadReached (slot : Fin 672) (s : State) : Host.Outcome State Fault Refusal :=
  .next (s.testEntry slot State.testPurge)

/-- PREHEAT_LEAD_REACHED (R64). -/
def execPreheatLeadReached (slot : Fin 672) (s : State) : Host.Outcome State Fault Refusal :=
  .next (s.testEntry slot State.testPreheat)

/-! ### Reading a slot (R62) -/

/-- An entry for slot `k` and context `c` is appended and its purge and preheat timing applied at once (R62). The queue
does not hold more than H entries (R62), nor two for one slot (R61). -/
def State.appendEntry (s : State) (k c : Nat) : State :=
  let e : QueueEntry := { slot := k, context := c, purgeStarted := false, preheating := false }
  if s.queue.length < s.site.lead ∧ s.queue.all (fun x => x.slot != k) = true then
    (({ s with queue := s.queue ++ [e] } : State).testPurge e).testPreheat e
  else s

/-- CALENDAR_EMPTY_CONTEXT of a slot that names an EMPTY context (R62, R65, R66). -/
def State.raiseEmptyContext (s : State) (c k : Nat) : State := s.raise .calendarEmptyContext c k

/-- Slot `k` is read (R62). -/
def State.readSlot (s : State) (k : Nat) : State :=
  match s.slotValue k with
  | none => s
  | some c =>
    if (s.context c).isNone = true then s.raiseEmptyContext c k
    else if s.inForceAhead = some c then s
    else s.appendEntry k c

/-- The calendar stands read for the current slot (R52; log 29). -/
def State.markRead (s : State) : State := { s with readAt := s.currentSlot }

/-- The slots current + 1 to current + H read in ascending order (R65, R66), which leaves the calendar read for the
current slot. -/
def State.fillQueue (s : State) : State :=
  s.markRead.forEach s.site.lead fun i t => t.readSlot ((s.currentSlot + 1 + i) % 672)

/-! ### The due event (R63) -/

/-- The head of the queue comes due (R63): it is removed with its preheat, a lead-0 purge that has not started starts
now, and its context goes to the handover as a new target. -/
def State.takeDue (s : State) : State :=
  match s.queue with
  | [] => s
  | e :: rest =>
    if s.dueReached e = true then
      let s1 : State := { s with queue := rest }
      let s2 := if e.purgeStarted = false ∧ s.purgeLeadOf e = 0 then s1.purgeContext e.context else s1
      s2.takeTarget e.context .due
    else s

/-- DUE_EVENT (R63), raised while the part is RUNNING and the clock VALID. -/
def execDueEvent (s : State) : Host.Outcome State Fault Refusal := .next (if s.calendarRuns = true then s.takeDue else s)

/-- A slot boundary's read is still to come: the calendar runs, and was last read at another slot than the one that
begins (R62, R66). -/
def State.readDue (s : State) : Bool := s.calendarRuns && s.atSlotBoundary && s.readAt != s.currentSlot

/-- LOOK_AHEAD_READ (R62): at a slot boundary, while RUNNING and VALID, a head already due is first handed on, and then
the slot H ahead is read. A boundary that SET CLOCK or START has already read is not read again (R66). -/
def execLookAheadRead (s : State) : Host.Outcome State Fault Refusal :=
  .next (if s.readDue = true then s.takeDue.markRead.readSlot ((s.currentSlot + s.site.lead) % 672) else s)

/-! ### The look-back (R65) -/

/-- The look-back over at most `n` slots, from slot `k` down: the first slot that is not HOLD, with its context (R65). -/
def lookBackFrom (cal : List (Option Nat)) : Nat → Nat → Option (Nat × Nat)
  | 0, _ => none
  | n + 1, k =>
    match cal.getD k none with
    | some c => some (k, c)
    | none => lookBackFrom cal n ((k + 671) % 672)

/-- The look-back from the current slot (R65). -/
def State.lookBack (s : State) : Option (Nat × Nat) := lookBackFrom s.settings.calendar 672 s.currentSlot

/-- START installs CURRENT from STORED by the look-back, or the fallback context (R65). -/
def State.installByCalendar (s : State) : State :=
  if s.clock.valid = true then
    match s.lookBack with
    | some (k, c) =>
      if (s.context c).isSome = true then s.installCurrent c
      else (s.installCurrent s.site.fallback).raiseEmptyContext c k
    | none => s.installCurrent s.site.fallback
  else s.installCurrent s.site.fallback

/-- SET CLOCK's look-back while RUNNING (R66, step 3). -/
def State.targetByCalendar (s : State) : State :=
  match s.lookBack with
  | some (k, c) =>
    if (s.context c).isNone = true then s.raiseEmptyContext c k
    else if s.programme.inForce = some c then s
    else s.takeTarget c .clock
  | none => s

end Sys2Proof.Machine
end

