-- ==== Sys2Proof/Machine/ZoneTable.lean ====
section
/-! DEFINITION. Zones and Occupancy (03), steps 1 and 2 of the zone evaluation: occupancy and target resolution; and the
rows OCCUPANCY_HOLD_EXPIRY and GRACE_EXPIRY. -/

namespace Sys2Proof.Machine

/-! ### Occupancy (R38 to R41) -/

/-- The occupancy hold has run out (R39). -/
def OccFields.holdOver (now : Nat) (c : ZoneConfig) (o : OccFields) : Bool := o.holdStart + 6000 * c.occHold ≤ now

/-- The grace time has run out (R40). -/
def OccFields.graceOver (now : Nat) (c : ZoneConfig) (o : OccFields) : Bool := o.graceStart + 100 * c.graceTime ≤ now

/-- An OCCUPIED zone whose hold has run out leaves OCCUPIED (R40): to GRACE, or at once to VACANT with grace time 0. -/
def OccFields.leave (now : Nat) (c : ZoneConfig) (o : OccFields) : OccFields :=
  if c.graceTime = 0 then { o with state := .vacant } else { o with state := .grace, graceStart := now }

/-- The transition of an evaluation without activity (R40). -/
def OccFields.quiet (now : Nat) (c : ZoneConfig) (o : OccFields) : OccFields :=
  match o.state with
  | .occupied => if o.holdOver now c = true then o.leave now c else o
  | .grace => if o.graceOver now c = true then { o with state := .vacant } else o
  | .vacant => o

/-- The occupancy step's outcome (R38 to R41); `sourceless` is a zone without an occupancy source, which sets no rise. -/
def OccFields.step (now : Nat) (c : ZoneConfig) (sourceless activity : Bool) (o : OccFields) : OccFields :=
  if sourceless = true then { o with state := .occupied, holdStart := now, activity := true, rise := false }
  else if activity = true then
    { o with state := .occupied, holdStart := now, activity := true, rise := o.state != .occupied }
  else { o.quiet now c with activity := false, rise := false }

/-- Zone `z`'s activity (R38): its mark, a LEVEL OCCUPANCY line that is ACTIVE, or an open door. -/
def State.zoneActive (s : State) (z : Nat) : Bool :=
  s.activity.getD z false || s.levelActivity z || 0 < s.doorsOpen z

/-- Step 1 of the evaluation (R38): the mark is taken, and set again where a LEVEL line holds it (R9). -/
def State.occupancyStep (s : State) (z : Nat) : State :=
  (s.updZone z fun r =>
    { r with occ := r.occ.step s.now (s.zoneCfg z) (!s.hasOccupancySource z) (s.zoneActive z) }).setMark z (s.levelActivity z)

/-- The evaluation of an enabled zone runs: the part is RUNNING and the zone enabled (R36). -/
def State.evaluates (s : State) (z : Nat) : Bool := s.running && s.enabled z

/-- OCCUPANCY_HOLD_EXPIRY (R40). -/
def execOccupancyHoldExpiry (zone : Fin 16) (s : State) : Host.Outcome State Fault Refusal :=
  let o := (s.zone zone).occ
  .next (if s.evaluates zone = true ∧ s.hasOccupancySource zone = true ∧ s.zoneActive zone = false ∧
      o.state = .occupied ∧ o.holdOver s.now (s.zoneCfg zone) = true then
    s.updZone zone fun r => { r with occ := r.occ.leave s.now (s.zoneCfg zone) }
  else s)

/-- GRACE_EXPIRY (R40). -/
def execGraceExpiry (zone : Fin 16) (s : State) : Host.Outcome State Fault Refusal :=
  let o := (s.zone zone).occ
  .next (if s.evaluates zone = true ∧ s.zoneActive zone = false ∧ o.state = .grace ∧
      o.graceOver s.now (s.zoneCfg zone) = true then
    s.updZone zone fun r => { r with occ := { r.occ with state := .vacant } }
  else s)

/-! ### Target resolution (R43 to R45) -/

/-- The programme fields taken from a context's entry, the preheat setpoint to follow (R43). -/
def entryProg (src : Source) (e : ZoneEntry) : ProgFields :=
  { source := src, occLevel := e.occLevel, vacLevel := e.vacLevel, setpoint := e.setpoint, setback := e.setback,
    heat := e.heat, ventMin := e.ventMin, preheat := none }

/-- The source and programme fields chosen for zone `z` (R43, R44). -/
def State.chooseProg (s : State) (z : Nat) : ProgFields :=
  let fromContext := fun (src : Source) (c : Nat) => match s.entryFor c z with
    | some e => entryProg src e
    | none => idleProg (s.zoneCfg z)
  match s.programme with
  | .handover h => fromContext (.incoming h.incoming) h.incoming
  | .current c => fromContext (.current c) c
  | .none => idleProg (s.zoneCfg z)

/-- The preheat candidates of zone `z` (R45). -/
def State.preheatCandidates (s : State) (z : Nat) : List Nat :=
  s.queue.filterMap fun e =>
    if e.preheating = true then
      match s.entryFor e.context z with
      | some k => if k.heat = true then some k.setpoint else none
      | none => none
    else none

/-- The preheat setpoint of zone `z`: the highest candidate (R45). -/
def State.preheatFor (s : State) (z : Nat) : Option Nat := (s.preheatCandidates z).max?

/-- Step 2 of the evaluation (R43 to R45). -/
def State.resolveStep (s : State) (z : Nat) : State :=
  s.updZone z fun r => { r with prog := { s.chooseProg z with preheat := s.preheatFor z } }

end Sys2Proof.Machine
end

