-- ==== Sys2Proof/Machine/Ventilation.lean ====
section
/-! DEFINITION. Ventilation and Exhaust Clearing (08): the ventilation step of the zone evaluation, and the rows
DOWN_DELAY_EXPIRY and PURGE_END. -/

namespace Sys2Proof.Machine

/-- Step threshold L(n) (08). -/
def SiteConfig.threshold (c : SiteConfig) (n : Nat) : Nat := if n ≤ 1 then c.l1 else if n = 2 then c.l2 else c.l3

/-- The step-down level of a threshold: 90 per cent, truncated (08). -/
def stepDown (l : Nat) : Nat := l * 90 / 100

/-- L1, L2, L3 and LA strictly increase (R117, R183). -/
def SiteConfig.increasing (c : SiteConfig) : Bool := c.l1 < c.l2 && c.l2 < c.l3 && c.l3 < c.la

/-- The air alarm after its test (R120). -/
def nextAlarm (la : Nat) (alarm : Bool) (air : Option Int) : Bool :=
  match air with
  | none => alarm
  | some a => if alarm = true then !decide (a < stepDown la) else decide ((la : Int) ≤ a)

/-- The fall row of the air stage (R121): the reading is below the step-down level and the down-delay has run. -/
def fallDue (c : SiteConfig) (now since a : Nat) (air : Int) : Bool :=
  0 < a && decide (air < stepDown (c.threshold a)) && since + 100 * c.downDelay ≤ now

/-- The air stage a (R121). -/
def nextAir (c : SiteConfig) (now count since : Nat) (alarm : Bool) (air : Option Int) (a : Nat) : Nat :=
  if alarm = true then count
  else match air with
    | none => min c.lostStage count
    | some v =>
      if (c.threshold (a + 1) : Int) ≤ v ∧ a < count then a + 1
      else if fallDue c now since a v = true then a - 1
      else a

/-- The credited stage a' (R122). -/
def creditedStage (creditDoors doorsOpen : Nat) (alarm : Bool) (a : Nat) : Nat :=
  if 0 < creditDoors ∧ creditDoors ≤ doorsOpen ∧ alarm = false then a - 1 else a

/-- The purge stage (R124). -/
def purgeStage (purging : Bool) (outdoor cold : Int) : Nat :=
  if purging = true then (if cold ≤ outdoor then 3 else 1) else 0

/-- A purge end that has been reached sets purging to no (R123). -/
def runPurge (now : Nat) (purgeEnd : Option Nat) : Option Nat :=
  match purgeEnd with
  | some e => if e ≤ now then none else some e
  | none => none

/-- The stages requested: by the floor and the credited stage outside fire mode (R125), by the fire fan action in it
(R126). -/
def stagesRequested (count credited nonAir : Nat) (fire : Bool) (action : FireFan) : Nat :=
  if fire = true then (match action with | .off => 0 | .exhaust => count)
  else min (max credited nonAir) count

/-- The ventilation fields a ventilation step leaves in zone `z` (R120 to R126). -/
def State.ventFields (s : State) (z : Nat) : VentFields :=
  let c := s.site
  let r := s.zone z
  let v := r.vent
  let count := s.fanStages z
  let air := s.zoneAir z
  let alarm := nextAlarm c.la v.alarm air
  let since1 := if v.alarm = true ∧ alarm = false then s.now else v.since
  let a := nextAir c s.now count since1 alarm air v.air
  let credited := creditedStage c.creditDoors (s.doorsOpen z) alarm a
  let purgeEnd := runPurge s.now v.purgeEnd
  let nonAir := (s.override z .vent).getD (max r.prog.ventMin (purgeStage purgeEnd.isSome s.outdoor c.purgeCold))
  { air := a, since := if a = v.air then since1 else s.now, alarm := alarm, credited := credited,
    purgeEnd := purgeEnd, nonAir := nonAir, stages := stagesRequested count credited nonAir s.fire c.fireFan }

/-- The tier of fan stage `n` (R125, R126). -/
def stageRequest (v : VentFields) (fire : Bool) (n : Nat) : Option Nat :=
  if n ≤ v.stages then (if fire = true ∨ n ≤ v.credited then some 0 else some 1) else none

/-- The alarm events of a ventilation step (R120). -/
def State.alarmEvents (s : State) (z : Nat) (was is : Bool) : State :=
  let reading := (((s.zoneAir z).getD 0)).toNat
  if was = false ∧ is = true then s.raise .airAlarm z reading
  else if was = true ∧ is = false then s.raise .airClear z reading
  else s

/-- Step 5 of the evaluation (08). -/
def State.ventilationStep (s : State) (z : Nat) : State :=
  let v := s.ventFields z
  let s1 := (s.updZone z fun r => { r with vent := v }).alarmEvents z (s.zone z).vent.alarm v.alarm
  s1.placeUnits .fan z fun _ n => stageRequest v s.fire n

/-- DOWN_DELAY_EXPIRY (R121): the fall row holds, so the air stage falls one stage and stage since is stamped.
With down-delay 0 the fall row may hold again at once, and the row then falls a further stage at the same moment
(DESIGN CHOICE, log 51). -/
def execDownDelayExpiry (zone : Fin 16) (s : State) : Host.Outcome State Fault Refusal :=
  let v := (s.zone zone).vent
  .next (if s.evaluates zone = true ∧ v.alarm = false ∧
      (s.zoneAir zone).any (fallDue s.site s.now v.since v.air) = true then
    s.updZone zone fun r => { r with vent := { r.vent with air := r.vent.air - 1, since := s.now } }
  else s)

/-- PURGE_END (R123). -/
def execPurgeEnd (zone : Fin 16) (s : State) : Host.Outcome State Fault Refusal :=
  .next (if s.evaluates zone = true then
    s.updZone zone fun r => { r with vent := { r.vent with purgeEnd := runPurge s.now r.vent.purgeEnd } }
  else s)

end Sys2Proof.Machine
end

