-- ==== Sys2Proof/Machine/ConfigRecords.lean ====
section
/-! DEFINITION. The configuration records as bytes (12, "Configuration records"), the reading of a written record, its
reference checks and its clamps, class by class. -/

namespace Sys2Proof.Machine

/-- A yes/no field; any value but 0 and 1 is malformed (log 13). -/
def yesNoOf : Nat → Option Bool
  | 0 => some false
  | 1 => some true
  | _ => none

/-- A line or dimming-channel field, FFh for NONE. -/
def ffNone (n : Nat) : Option Nat := if n = 0xFF then none else some n

/-! ### LINE -/

/-- The 7 bytes of a LINE record. The mask numbers its values in its table's order: masked 0, unmasked 1 (log 14). -/
def LineConfig.bytes (c : LineConfig) : List Byte :=
  u8 c.role.code ++ yesNo c.enable ++ u8 c.zone ++ u8 c.polarity.code ++ u8 c.trigger.code ++ u8 c.debounce ++
  yesNo (!c.masked)

/-- The LINE record of 7 bytes, `none` where a code is malformed. -/
def LineConfig.ofBytes (b : List Byte) : Option LineConfig := do
  let role ← LineRole.ofCode (rd8 b 0)
  let enable ← yesNoOf (rd8 b 1)
  let polarity ← Polarity.ofCode (rd8 b 3)
  let trigger ← TriggerMode.ofCode (rd8 b 4)
  let unmasked ← yesNoOf (rd8 b 6)
  some { role := role, enable := enable, zone := rd8 b 2, polarity := polarity, trigger := trigger,
         debounce := rd8 b 5, masked := !unmasked }

/-- The structural fields of a LINE record agree (01, Line configuration). -/
def LineConfig.sameStructure (c d : LineConfig) : Bool := c.role == d.role && c.enable == d.enable && c.zone == d.zone

/-! ### DOOR -/

/-- The 2 bytes of a DOOR record. -/
def DoorConfig.bytes (c : DoorConfig) : List Byte := u8 (noneFF c.line) ++ u8 c.zone

/-- The DOOR record of 2 bytes. -/
def DoorConfig.ofBytes (b : List Byte) : DoorConfig := { line := ffNone (rd8 b 0), zone := rd8 b 1 }

/-- The reference checks of a DOOR write (R11): the line and zone exist, and no other door names the line. -/
def State.doorRefsOk (s : State) (d : Nat) (c : DoorConfig) : Bool :=
  c.line.all (fun l => l ≤ 63) && c.zone ≤ 15 &&
  (c.line.isNone || (List.range 48).all fun e => e == d || (s.doorCfg e).line != c.line)

/-! ### CHANNEL -/

/-- The 12 bytes of a CHANNEL record. -/
def ChannelConfig.bytes (c : ChannelConfig) : List Byte :=
  u8 c.role.code ++ u8 c.zone ++ u16 c.codeLo ++ s16 c.valueLo ++ u16 c.codeHi ++ s16 c.valueHi ++ u16 c.hold

/-- The CHANNEL record of 12 bytes, `none` where the role code is malformed. -/
def ChannelConfig.ofBytes (b : List Byte) : Option ChannelConfig := do
  let role ← ChannelRole.ofCode (rd8 b 0)
  some { role := role, zone := rd8 b 1, codeLo := rd16 b 2, valueLo := rdS16 b 4, codeHi := rd16 b 6,
         valueHi := rdS16 b 8, hold := rd16 b 10 }

/-- How many channels other than `n` have role `r`, of zone `z` where the role is a zone's (R20). -/
def State.roleUsers (s : State) (n : Nat) (r : ChannelRole) (z : Nat) : Nat :=
  (List.range 24).countP fun c =>
    c != n && (s.chanCfg c).role == r && (r == .outdoorTemp || r == .daylight || (s.chanCfg c).zone == z)

/-- The role limits with channel `n` written as `c` (R20). -/
def State.roleLimitsOk (s : State) (n : Nat) (c : ChannelConfig) : Bool :=
  match c.role with
  | .zoneTemp => s.roleUsers n c.role c.zone < 2
  | .air => s.roleUsers n c.role c.zone < 1
  | .outdoorTemp => s.roleUsers n c.role c.zone < 1
  | .daylight => s.roleUsers n c.role c.zone < 1
  | .unused => true

/-- The reference checks of a CHANNEL write (R20). -/
def State.channelRefsOk (s : State) (n : Nat) (c : ChannelConfig) : Bool :=
  c.zone ≤ 15 && c.codeLo ≤ 4095 && c.codeHi ≤ 4095 && s.roleLimitsOk n c

/-- The structural fields of a CHANNEL record agree: role, zone and calibration points (02). -/
def ChannelConfig.sameStructure (c d : ChannelConfig) : Bool := { c with hold := 0 } == { d with hold := 0 }

/-- The hold time clamped (R20). -/
def ChannelConfig.clamped (c : ChannelConfig) : ChannelConfig := { c with hold := clampN 10 600 c.hold }

/-! ### ZONE -/

/-- The 22 bytes of a ZONE record. -/
def ZoneConfig.bytes (c : ZoneConfig) : List Byte :=
  yesNo c.enabled ++ u8 (noneFF c.dimming) ++ u8 c.floor ++ u8 c.doorLevel ++ u8 c.occHold ++ u16 c.graceTime ++
  u8 c.dayFactor ++ u16 c.heldOpen ++ u8 c.heatBand ++ u16 c.debtStep ++ u8 c.debtDecay ++ u16 c.rated ++
  u8 c.rampRate ++ u8 c.trimAllow ++ u8 c.trimTier ++ u16 c.idleSetpoint ++ u8 c.idleLevel

/-- The ZONE record of 22 bytes, `none` where the enabled field is malformed. -/
def ZoneConfig.ofBytes (b : List Byte) : Option ZoneConfig := do
  let enabled ← yesNoOf (rd8 b 0)
  some { enabled := enabled, dimming := ffNone (rd8 b 1), floor := rd8 b 2, doorLevel := rd8 b 3, occHold := rd8 b 4,
         graceTime := rd16 b 5, dayFactor := rd8 b 7, heldOpen := rd16 b 8, heatBand := rd8 b 10,
         debtStep := rd16 b 11, debtDecay := rd8 b 13, rated := rd16 b 14, rampRate := rd8 b 16,
         trimAllow := rd8 b 17, trimTier := rd8 b 18, idleSetpoint := rd16 b 19, idleLevel := rd8 b 21 }

/-- The reference checks of a ZONE write (R34): the dimming channel exists, and no other zone names it. -/
def State.zoneRefsOk (s : State) (z : Nat) (c : ZoneConfig) : Bool :=
  c.dimming.all (fun k => k ≤ 15) &&
  (c.dimming.isNone || (List.range 16).all fun y => y == z || (s.zoneCfg y).dimming != c.dimming)

/-- The structural fields of a ZONE record agree (03, Zone configuration). -/
def ZoneConfig.sameStructure (c d : ZoneConfig) : Bool := c.enabled == d.enabled && c.dimming == d.dimming

/-- Every tuning field at the nearer end of its range (R34). -/
def ZoneConfig.clamped (c : ZoneConfig) : ZoneConfig :=
  { c with
      floor := clampN 0 50 c.floor, doorLevel := clampN 0 100 c.doorLevel, occHold := clampN 1 60 c.occHold
      graceTime := clampN 0 600 c.graceTime, dayFactor := clampN 0 100 c.dayFactor
      heldOpen := clampN 60 3600 c.heldOpen, heatBand := clampN 5 50 c.heatBand
      debtStep := clampN 30 600 c.debtStep, debtDecay := clampN 1 10 c.debtDecay, rated := clampN 0 65000 c.rated
      rampRate := clampN 1 100 c.rampRate, trimAllow := clampN 0 50 c.trimAllow, trimTier := clampN 1 3 c.trimTier
      idleSetpoint := clampN 50 280 c.idleSetpoint, idleLevel := clampN 0 100 c.idleLevel }

/-! ### OUTPUT -/

/-- The three bytes of a reference: kind, number, unit or stage. -/
def OutputRef.bytes : OutputRef → List Byte
  | .nothing => u8 0 ++ u8 0 ++ u8 0
  | .zone z u => u8 1 ++ u8 z ++ u8 u
  | .door d => u8 2 ++ u8 d ++ u8 0

/-- The reference of three bytes; the unit or stage is 0 where the kind has none (12). Of a reference of kind none the
manual does not say what its number byte holds: any number is taken and dropped (DESIGN CHOICE, log 22). -/
def OutputRef.ofBytes (kind number unit : Nat) : Option OutputRef :=
  match kind with
  | 0 => if unit = 0 then some .nothing else none
  | 1 => some (.zone number unit)
  | 2 => if unit = 0 then some (.door number) else none
  | _ => none

/-- The 11 bytes of an OUTPUT record. -/
def OutputConfig.bytes (c : OutputConfig) : List Byte :=
  u8 c.function.code ++ c.ref.bytes ++ u16 c.watts ++ u8 c.tier ++ u16 c.minOn ++ u16 c.minOff

/-- The tier a change of function gives (10, Output configuration). -/
def OutputFunction.defaultTier (f : OutputFunction) : Nat := if f = .heater then 2 else 1
/-- The minimum-on time a change of function gives. -/
def OutputFunction.defaultMinOn (f : OutputFunction) : Nat := if f = .heater then 120 else if f = .fan then 30 else 0
/-- The minimum-off time a change of function gives. -/
def OutputFunction.defaultMinOff (f : OutputFunction) : Nat := if f = .heater then 180 else if f = .fan then 30 else 0

/-- A value written, or where its code is the not-given one the value for the new function, or where the function is
kept the value that stands (R147). -/
def notGiven (code given : Nat) (changed : Bool) (byFunction stands : Nat) : Nat :=
  if given = code then (if changed then byFunction else stands) else given

/-- The OUTPUT record of 11 bytes written over `old`, `none` where a code is malformed. -/
def OutputConfig.ofBytes (old : OutputConfig) (b : List Byte) : Option OutputConfig := do
  let f ← OutputFunction.ofCode (rd8 b 0)
  let ref ← OutputRef.ofBytes (rd8 b 1) (rd8 b 2) (rd8 b 3)
  let changed : Bool := f != old.function
  some { function := f, ref := ref, watts := rd16 b 4,
         tier := notGiven 0xFF (rd8 b 6) changed f.defaultTier old.tier,
         minOn := notGiven 0xFFFF (rd16 b 7) changed f.defaultMinOn old.minOn,
         minOff := notGiven 0xFFFF (rd16 b 9) changed f.defaultMinOff old.minOff }

/-- The reference is one the function takes (10, Output configuration). -/
def OutputConfig.refFits (c : OutputConfig) : Bool :=
  match c.function, c.ref with
  | .heater, .zone z u => z ≤ 15 && 1 ≤ u && u ≤ 3
  | .fan, .zone z u => z ≤ 15 && 1 ≤ u && u ≤ 3
  | .curtain, .door d => d ≤ 47
  | .lightContactor, .zone z u => z ≤ 15 && u == 0
  | .beacon, .zone z u => z ≤ 15 && u == 0
  | .beacon, .door d => d ≤ 47
  | .spare, .nothing => true
  | _, _ => false

/-- The reference checks of an OUTPUT write (R147): the reference exists, and no second load output takes it. -/
def State.outputRefsOk (s : State) (o : Nat) (c : OutputConfig) : Bool :=
  c.refFits &&
  (!c.function.isLoad ||
    (List.range 40).all fun e => e == o || (s.outCfg e).function != c.function || (s.outCfg e).ref != c.ref)

/-- The structural fields of an OUTPUT record agree (10). -/
def OutputConfig.sameStructure (c d : OutputConfig) : Bool := c.function == d.function && c.ref == d.ref

/-- Rated watts, tier and hold times clamped (R147). -/
def OutputConfig.clamped (c : OutputConfig) : OutputConfig :=
  { c with watts := clampN 0 65000 c.watts, tier := clampN 1 3 c.tier, minOn := clampN 0 900 c.minOn,
           minOff := clampN 0 900 c.minOff }

/-! ### SITE -/

/-- The 44 bytes of the SITE record. -/
def SiteConfig.bytes (c : SiteConfig) : List Byte :=
  s16 c.designOutdoor ++ s16 c.clockTrim ++ u8 c.fallback ++ u8 c.lead ++ u16 c.dayFull ++ u8 c.stoppedLevel ++
  u16 c.l1 ++ u16 c.l2 ++ u16 c.l3 ++ u16 c.la ++ u16 c.downDelay ++ u8 c.creditDoors ++ u8 c.lostStage ++
  u8 c.fireFan.code ++ s16 c.purgeCold ++ u16 c.pulseWeight ++ u16 c.windowLen ++ u8 c.period ++ u16 c.ceiling ++
  u8 c.shedPct ++ u16 c.meterSilence ++ u16 c.assumedBase ++ u16 c.yieldTimeout ++ u16 c.supSilence ++
  u16 c.panSilence ++ u8 c.station ++ yesNo c.autostart

/-- The SITE record of 44 bytes, `none` where a code is malformed. -/
def SiteConfig.ofBytes (b : List Byte) : Option SiteConfig := do
  let fireFan ← FireFan.ofCode (rd8 b 21)
  let autostart ← yesNoOf (rd8 b 43)
  some { designOutdoor := rdS16 b 0, clockTrim := rdS16 b 2, fallback := rd8 b 4, lead := rd8 b 5,
         dayFull := rd16 b 6, stoppedLevel := rd8 b 8, l1 := rd16 b 9, l2 := rd16 b 11, l3 := rd16 b 13,
         la := rd16 b 15, downDelay := rd16 b 17, creditDoors := rd8 b 19, lostStage := rd8 b 20, fireFan := fireFan,
         purgeCold := rdS16 b 22, pulseWeight := rd16 b 24, windowLen := rd16 b 26, period := rd8 b 28,
         ceiling := rd16 b 29, shedPct := rd8 b 31, meterSilence := rd16 b 32, assumedBase := rd16 b 34,
         yieldTimeout := rd16 b 36, supSilence := rd16 b 38, panSilence := rd16 b 40, station := rd8 b 42,
         autostart := autostart }

/-- An allocation period the part has (09, Allocation settings). -/
def periodOk (p : Nat) : Bool := p == 5 || p == 10 || p == 15 || p == 20 || p == 30

/-- The reference checks of a SITE write: the fallback context (R60), the allocation period (R129) and the station
address (R173). -/
def SiteConfig.refsOk (c : SiteConfig) : Bool :=
  c.fallback ≤ 15 && periodOk c.period && 1 ≤ c.station && c.station ≤ 31

/-- Every quantity at the nearer end of its range; a window length is truncated to its step of 60 s, and a meter silence
time of 1–59 is taken as 60 (R20, R50, R61, R87, R117, R129, R159, R172). -/
def SiteConfig.clamped (c : SiteConfig) : SiteConfig :=
  { c with
      designOutdoor := clampI (-400) 600 c.designOutdoor, clockTrim := clampI (-200) 200 c.clockTrim
      lead := clampN 1 4 c.lead, dayFull := clampN 100 20000 c.dayFull, stoppedLevel := clampN 0 100 c.stoppedLevel
      l1 := clampN 1 1000 c.l1, l2 := clampN 1 1000 c.l2, l3 := clampN 1 1000 c.l3, la := clampN 1 1000 c.la
      downDelay := clampN 0 600 c.downDelay, creditDoors := clampN 0 16 c.creditDoors
      lostStage := clampN 0 3 c.lostStage, purgeCold := clampI (-300) 100 c.purgeCold
      pulseWeight := clampN 1 1000 c.pulseWeight, windowLen := clampN 300 3600 c.windowLen / 60 * 60
      ceiling := clampN 10 6000 c.ceiling, shedPct := clampN 0 80 c.shedPct
      meterSilence := if c.meterSilence = 0 then 0 else clampN 60 3600 c.meterSilence
      assumedBase := clampN 0 5000 c.assumedBase, yieldTimeout := clampN 5 300 c.yieldTimeout
      supSilence := clampN 10 600 c.supSilence, panSilence := clampN 10 600 c.panSilence }

/-- The structural fields of the SITE record agree: clock trim (R50), H (R61), pulse weight, W and P (R129). -/
def SiteConfig.sameStructure (c d : SiteConfig) : Bool :=
  c.clockTrim == d.clockTrim && c.lead == d.lead && c.pulseWeight == d.pulseWeight && c.windowLen == d.windowLen &&
  c.period == d.period

/-! ### A context record (12, Payloads; R54) -/

/-- The 8 bytes of a context entry. -/
def ZoneEntry.bytes (e : ZoneEntry) : List Byte :=
  u8 e.zone ++ u8 e.occLevel ++ u8 e.vacLevel ++ u16 e.setpoint ++ u8 e.setback ++ yesNo e.heat ++ u8 e.ventMin

/-- The context entry of 8 bytes; `heat` is any value but 0 here, its form checked by `entriesOk`. -/
def ZoneEntry.ofBytes (b : List Byte) : ZoneEntry :=
  { zone := rd8 b 0, occLevel := rd8 b 1, vacLevel := rd8 b 2, setpoint := rd16 b 3, setback := rd8 b 5,
    heat := rd8 b 6 != 0, ventMin := rd8 b 7 }

/-- A context's fields from demand cap on (12, CONTEXT READ); 0 throughout for an EMPTY context (R59). -/
def contextBytes : Option Context → List Byte
  | none => List.replicate 8 0
  | some c =>
    u16 c.cap ++ u8 c.ramp ++ u8 c.grace ++ u8 c.purgeLead ++ u8 c.purgeDur ++ u8 c.preheatLead ++
    u8 c.entries.length ++ c.entries.flatMap ZoneEntry.bytes

/-- The `n` entries of a CONTEXT WRITE payload, in the order given. -/
def entriesOf (b : List Byte) (n : Nat) : List ZoneEntry :=
  (List.range n).map fun i => ZoneEntry.ofBytes (b.drop (9 + 8 * i))

/-- The entries are well formed (R56): each zone at most 15, no two for one zone, each heat enable 0 or 1. -/
def entriesOk (b : List Byte) (n : Nat) : Bool :=
  (entriesOf b n).all (fun e => e.zone ≤ 15) && decide ((entriesOf b n).map ZoneEntry.zone).Nodup &&
  (List.range n).all fun i => yesNoOk (rd8 b (9 + 8 * i + 6))

/-- An entry with every quantity in its range (R54, R56). -/
def ZoneEntry.clamped (e : ZoneEntry) : ZoneEntry :=
  { e with occLevel := clampN 0 100 e.occLevel, vacLevel := clampN 0 100 e.vacLevel,
           setpoint := clampN 50 280 e.setpoint, setback := clampN 0 100 e.setback, ventMin := clampN 0 3 e.ventMin }

/-- The entries in ascending zone order (R56). -/
def sortEntries (es : List ZoneEntry) : List ZoneEntry :=
  (List.range 16).filterMap fun z => es.find? fun e => e.zone == z

/-- The context record of a CONTEXT WRITE payload, its entries in ascending zone order (R56). -/
def Context.ofBytes (b : List Byte) : Context :=
  { cap := rd16 b 1, ramp := rd8 b 3, grace := rd8 b 4, purgeLead := rd8 b 5, purgeDur := rd8 b 6,
    preheatLead := rd8 b 7, entries := sortEntries (entriesOf b (rd8 b 8)) }

/-- A context record with every quantity in its range (R54, R56). -/
def Context.clamped (c : Context) : Context :=
  { cap := clampN 10 5000 c.cap, ramp := clampN 1 60 c.ramp, grace := clampN 0 30 c.grace,
    purgeLead := clampN 0 30 c.purgeLead, purgeDur := clampN 1 30 c.purgeDur,
    preheatLead := clampN 0 60 c.preheatLead, entries := c.entries.map ZoneEntry.clamped }

end Sys2Proof.Machine
end

