-- ==== Sys2Proof/Machine/CalendarRequests.lean ====
section
/-! DEFINITION. The requests of the Shift Calendar Unit (04): CONTEXT READ, WRITE, ERASE and COPY, CALENDAR READ and
WRITE, FORCE SHIFT and SET CLOCK. -/

namespace Sys2Proof.Machine

/-! ### The context store (R56 to R59) -/

/-- CONTEXT READ's reply (R59). -/
def State.contextReadBody (b : List Byte) (s : State) : State × Reply :=
  let c := rd8 b 0
  if 15 < c then answer .badReference s
  else taken (u8 c ++ u8 (s.contextState c).code ++ yesNo (s.queued c) ++ yesNo (s.site.fallback = c) ++
    u8 (poolUsed s.settings.contexts) ++ contextBytes (s.context c)) s

/-- CONTEXT READ (R59). -/
def execContextRead (port : Port) (payload : List Byte) (s : State) : Host.Outcome State Fault Refusal :=
  .next (s.serve port .contextRead payload (withLength 1 payload (State.contextReadBody payload)))

/-- Putting `n` entries in context `c`'s place leaves the pool within its 192 entries (R56, R58). -/
def State.poolFits (s : State) (c n : Nat) : Bool :=
  poolUsed s.settings.contexts - contextEntries (s.context c) + n ≤ Config.pool

/-- The payload of a CONTEXT WRITE has the length its entry count gives it, and the count is 1–16 (R56). -/
def contextLengthOk (b : List Byte) : Bool :=
  9 ≤ b.length && 1 ≤ rd8 b 8 && rd8 b 8 ≤ 16 && b.length == 9 + 8 * rd8 b 8

/-- CONTEXT WRITE's checks in the order of R56, and its effect. -/
def State.contextWriteBody (b : List Byte) (s : State) : State × Reply :=
  let c := rd8 b 0
  let n := rd8 b 8
  if contextLengthOk b = false then answer .badLength s
  else if 15 < c then answer .badReference s
  else if entriesOk b n = false then answer .badReference s
  else if s.active c = true then answer .inUse s
  else if s.poolFits c n = false then answer .poolFull s
  else
    let r := Context.ofBytes b
    (s.setContext c (some r.clamped), { status := if r.clamped = r then .ok else .clamped, data := [] })

/-- CONTEXT WRITE (R56). -/
def execContextWrite (port : Port) (payload : List Byte) (s : State) : Host.Outcome State Fault Refusal :=
  .next (s.serve port .contextWrite payload (State.contextWriteBody payload))

/-- CONTEXT ERASE's checks in the order of R57, and its effect. -/
def State.contextEraseBody (b : List Byte) (s : State) : State × Reply :=
  let c := rd8 b 0
  if 15 < c then answer .badReference s
  else if s.active c = true then answer .inUse s
  else if s.queued c = true then answer .inUse s
  else if s.site.fallback = c then answer .inUse s
  else taken [] (s.setContext c none)

/-- CONTEXT ERASE (R57). -/
def execContextErase (port : Port) (payload : List Byte) (s : State) : Host.Outcome State Fault Refusal :=
  .next (s.serve port .contextErase payload (withLength 1 payload (State.contextEraseBody payload)))

/-- CONTEXT COPY's checks in the order of R58, and its effect. -/
def State.contextCopyBody (b : List Byte) (s : State) : State × Reply :=
  let src := rd8 b 0
  let dst := rd8 b 1
  if 15 < src ∨ 15 < dst then answer .badReference s
  else match s.context src with
    | none => answer .emptyContext s
    | some r =>
      if s.active dst = true then answer .inUse s
      else if src = dst then taken [] s
      else if s.poolFits dst r.entries.length = false then answer .poolFull s
      else taken [] (s.setContext dst (some r))

/-- CONTEXT COPY (R58). -/
def execContextCopy (port : Port) (payload : List Byte) (s : State) : Host.Outcome State Fault Refusal :=
  .next (s.serve port .contextCopy payload (withLength 2 payload (State.contextCopyBody payload)))

/-! ### The calendar (R52, R53) -/

/-- The 4 bytes of a queue entry (12, Payloads). -/
def QueueEntry.bytes (e : QueueEntry) : List Byte :=
  u16 e.slot ++ u8 e.context ++ u8 ((if e.purgeStarted then 1 else 0) + if e.preheating then 2 else 0)

/-- The `n` values of the calendar from slot `first` on, wrapping, HOLD as FFh (R53). -/
def State.slotBytes (s : State) (first n : Nat) : List Byte :=
  (List.range n).flatMap fun i => u8 (noneFF (s.slotValue ((first + i) % 672)))

/-- CALENDAR READ's checks in the order of R53, and its reply. -/
def State.calendarReadBody (b : List Byte) (s : State) : State × Reply :=
  let first := rd16 b 0
  let n := rd8 b 2
  if 671 < first then answer .badReference s
  else if n = 0 ∨ 96 < n then answer .badLength s
  else taken (u16 first ++ u8 n ++ s.slotBytes first n ++ u8 s.site.lead ++ u8 s.queue.length ++
    s.queue.flatMap QueueEntry.bytes) s

/-- CALENDAR READ (R53). -/
def execCalendarRead (port : Port) (payload : List Byte) (s : State) : Host.Outcome State Fault Refusal :=
  .next (s.serve port .calendarRead payload (withLength 3 payload (State.calendarReadBody payload)))

/-- A slot value is a context number or HOLD (R52). -/
def slotValueOk (v : Byte) : Bool := v.toNat ≤ 15 || v == 0xFF

/-- The calendar with a run of values stored from slot `first` on, wrapping from slot 671 to slot 0 (R52). -/
def storeRun (cal : List (Option Nat)) (first : Nat) (run : List Byte) : List (Option Nat) :=
  run.zipIdx.foldl (fun c vi => c.set ((first + vi.2) % 672) (ffNone vi.1.toNat)) cal

/-- The slots of a run that lie in the edit horizon (R52). -/
def State.deferredCount (s : State) (first n : Nat) : Nat :=
  (List.range n).countP fun i => s.inHorizon ((first + i) % 672)

/-- CALENDAR WRITE's checks in the order of R52, and its effect. -/
def State.calendarWriteBody (b : List Byte) (s : State) : State × Reply :=
  let first := rd16 b 0
  let run := b.drop 2
  if b.length < 3 ∨ 98 < b.length then answer .badLength s
  else if 671 < first then answer .badReference s
  else if run.all slotValueOk = false then answer .badReference s
  else
    let n := s.deferredCount first run.length
    (s.updSettings fun k => { k with calendar := storeRun k.calendar first run },
      if n = 0 then { status := .ok, data := [] } else { status := .deferred, data := u8 n })

/-- CALENDAR WRITE (R52). -/
def execCalendarWrite (port : Port) (payload : List Byte) (s : State) : Host.Outcome State Fault Refusal :=
  .next (s.serve port .calendarWrite payload (State.calendarWriteBody payload))

/-! ### FORCE SHIFT (R67) -/

/-- FORCE SHIFT's checks in the order of R67, and its effect. -/
def State.forceShiftBody (b : List Byte) (s : State) : State × Reply :=
  let n := rd8 b 0
  if 15 < n then answer .badReference s
  else if s.running = false then answer .notRunning s
  else if (s.context n).isNone = true then answer .emptyContext s
  else taken [] (s.takeTarget n .force)

/-- FORCE SHIFT (R67). -/
def execForceShift (port : Port) (payload : List Byte) (s : State) : Host.Outcome State Fault Refusal :=
  .next (s.serve port .forceShift payload (withLength 1 payload (State.forceShiftBody payload)))

/-! ### SET CLOCK (R66) -/

/-- The site clock set and made VALID; the running site second keeps its phase (R66, step 1; log 6). -/
def SiteClock.setTo (minute second : Nat) (c : SiteClock) : SiteClock :=
  { c with minute := minute, second := second, valid := true }

/-- Steps 2 to 5 of SET CLOCK while RUNNING (R66): the queue is cleared, the look-back taken, the queue refilled, and
the window, which ran `ran` seconds by the clock before it was set, closed short and a new one opened. -/
def State.reclock (s : State) (ran : Nat) : State :=
  (((({ s with queue := [] } : State).targetByCalendar.fillQueue).closeWindow true ran).openWindow)

/-- SET CLOCK's effect (R66). -/
def State.setClock (s : State) (minute second : Nat) : State :=
  let s1 : State := { s with clock := s.clock.setTo minute second }
  let s2 := if s.running = true then s1.reclock s.windowRan else s1
  s2.raise .clockSet 0 minute

/-- SET CLOCK's checks after its length, and its effect (R66). -/
def State.setClockBody (b : List Byte) (s : State) : State × Reply :=
  if 10079 < rd16 b 0 ∨ 59 < rd8 b 2 then answer .badReference s
  else taken [] (s.setClock (rd16 b 0) (rd8 b 2))

/-- SET CLOCK (R66). -/
def execSetClock (port : Port) (payload : List Byte) (s : State) : Host.Outcome State Fault Refusal :=
  .next (s.serve port .setClock payload (withLength 3 payload (State.setClockBody payload)))

end Sys2Proof.Machine
end

