-- ==== Sys2Proof/Machine/Lighting.lean ====
section
/-! DEFINITION. Lighting (06): the lighting step of the zone evaluation. -/

namespace Sys2Proof.Machine

/-- The base level B (R89). -/
def baseLevel (o : Occupancy) (p : ProgFields) : Nat :=
  match o with
  | .occupied => p.occLevel
  | .grace => max p.vacLevel (p.occLevel / 2)
  | .vacant => p.vacLevel

/-- The daylight credit c (R90). -/
def dayCredit (c : ZoneConfig) (full : Nat) (daylight : Option Int) : Nat :=
  match daylight with
  | none => 0
  | some l => c.dayFactor * min l.toNat full / full

/-- The level after daylight t1 (R90). -/
def afterDaylight (b credit : Nat) : Nat := b * (100 - credit) / 100

/-- The floor part: F when the zone is OCCUPIED or GRACE, otherwise 0 (R91). -/
def floorPart (o : Occupancy) (c : ZoneConfig) : Nat := if o = .vacant then 0 else c.floor

/-- The target t3 from t1: door floor, override, egress floor, fire (R91). -/
def targetLevel (c : ZoneConfig) (doorsOpen : Nat) (override : Option Nat) (floor : Nat) (fire : Bool) (t1 : Nat) : Nat :=
  let doorFloor := if 0 < doorsOpen then max t1 c.doorLevel else t1
  let t2 := override.getD doorFloor
  if fire = true then 100 else max t2 floor

/-- The trimmable part (R92). -/
def trimmable (c : ZoneConfig) (t3 floor : Nat) (fire override : Bool) : Nat :=
  if fire = true ∨ override = true then 0 else min c.trimAllow (t3 - floor)

/-- The granted level g (R94). -/
def grantedLevel (c : ZoneConfig) (t3 u trim grantedTrim : Nat) : Nat :=
  if c.rated = 0 then t3
  else if trim ≤ grantedTrim then t3
  else min t3 (u + grantedTrim * 100 / c.rated)

/-- The normal ramp of P toward g (R95). -/
def normalRamp (rate p g : Nat) : Nat := if p < g then min g (p + rate) else max g (p - rate)

/-- The handover ramp of P from P0 (R96). -/
def handoverRamp (p0 g elapsed rampSeconds floor : Nat) : Nat :=
  max ((p0 : Int) + (((g : Int) - p0) * elapsed).tdiv rampSeconds).toNat floor

/-- The present level P by the one law that applies: fire, handover ramp, floor guard, normal ramp (R95 to R97). -/
def presentLevel (c : ZoneConfig) (fire : Bool) (ramp : Option (Nat × Nat × Nat)) (rise : Bool) (floor g p : Nat) : Nat :=
  if fire = true then 100
  else match ramp with
    | some (p0, elapsed, secs) => handoverRamp p0 g elapsed secs floor
    | none => if rise = true ∧ p < floor then floor else normalRamp c.rampRate p g

/-- The handover ramp that runs in zone `z`: P0, elapsed and 60 × R while elapsed is below 60 × R (R96). -/
def State.rampOfZone (s : State) (z : Nat) : Option (Nat × Nat × Nat) :=
  match s.programme with
  | .handover h => if h.elapsed < 60 * h.ramp then some (h.startLevels.getD z 0, h.elapsed, 60 * h.ramp) else none
  | _ => none

/-- The lighting fields a lighting step leaves in zone `z` (R89 to R97). -/
def State.lightFields (s : State) (z : Nat) : LightFields :=
  let c := s.zoneCfg z
  let r := s.zone z
  let locked := s.override z .light
  let floor := floorPart r.occ.state c
  let t1 := afterDaylight (baseLevel r.occ.state r.prog) (dayCredit c s.site.dayFull s.daylight)
  let t3 := targetLevel c (s.doorsOpen z) locked floor s.fire t1
  let u := t3 - trimmable c t3 floor s.fire locked.isSome
  let trim := wattsAt c.rated t3 - wattsAt c.rated u
  let g := grantedLevel c t3 u trim r.light.grantedTrim
  { target := t3, floorPart := floor, untrim := u, tier0 := wattsAt c.rated u, trim := trim, granted := g,
    present := presentLevel c s.fire (s.rampOfZone z) r.occ.rise floor g r.light.present,
    grantedTrim := r.light.grantedTrim, rated := c.rated, trimTier := c.trimTier }

/-- Step 3 of the evaluation (06). -/
def State.lightingStep (s : State) (z : Nat) : State := s.updZone z fun r => { r with light := s.lightFields z }

/-- A write that raises F while RUNNING raises the present level of an OCCUPIED or GRACE zone to it at once (R87). -/
def State.raiseToFloor (s : State) (z : Nat) : State :=
  s.updZone z fun r =>
    { r with light := { r.light with present := max r.light.present (floorPart r.occ.state (s.zoneCfg z)) } }

end Sys2Proof.Machine
end

