-- ==== Sys2Proof/Machine/Fire.lean ====
section
/-! DEFINITION. The moments the fire mode latch is set and cleared, with what every block does at them (R15 to R17, R83,
R97, R113, R126, R151, R157). -/

namespace Sys2Proof.Machine

/-- Every output of function `f` forced off with forced FIRE (R151). -/
def State.forceFunction (s : State) (f : OutputFunction) : State :=
  s.forEach 40 fun o t => if (s.outCfg o).function = f then t.updOut o (OutputRec.forceFire s.now (s.outCfg o)) else t

/-- The fire fan action taken while the latch is set (R126, R151): OFF withdraws and forces off every fan stage;
EXHAUST, while RUNNING, requests every stage of every enabled zone at tier 0. -/
def State.fireFans (s : State) : State :=
  match s.site.fireFan with
  | .off =>
    let s1 := s.forceFunction .fan
    { s1 with zones := s1.zones.map fun r => { r with vent := { r.vent with stages := 0 } } }
  | .exhaust =>
    if s.running = true then
      s.forEach 16 fun z t =>
        if s.enabled z then
          (t.placeUnits .fan z fun _ _ => some 0).updZone z fun r => { r with vent := { r.vent with stages := s.fanStages z } }
        else t
    else s

/-- The present level of every enabled zone set at once; while STOPPED the granted level is reported equal to it
(R97, R99). -/
def State.setLevels (s : State) (p : Nat) : State :=
  s.forEach 16 fun z t =>
    if s.enabled z then
      t.updZone z fun r =>
        { r with light := { r.light with present := p, granted := if s.running then r.light.granted else p } }
    else t

/-- The latch is set by FIRE line `l` with FIRE_ON (R15), and every block acts at that moment: a handover in progress
completes (R83), levels go to 100 (R97), heater and curtain requests are withdrawn and their outputs forced off (R113,
R151), the fans follow the fire fan action (R126) and every test ends (R157). A latch already set stays set. -/
def State.setFire (s : State) (l : Nat) : State :=
  if s.fire = true then s
  else
    let s1 := ({ s with fire := true } : State).raise .fireOn l 0
    let s2 := match s1.programme with
      | .handover h => s1.completeHandover h true
      | _ => s1
    let s3 := s2.setLevels 100
    let s4 := (s3.endTests.forceFunction .heater).forceFunction .curtain
    let s5 : State := { s4 with zones := s4.zones.map fun r => { r with heat := { r.heat with units := 0 } } }
    s5.fireFans

/-- The latch is cleared with FIRE_RESET, value 0 by FIRE RESET and 1 by START (R16, R17): forced FIRE becomes NONE
(R151); while RUNNING each enabled zone's fan request becomes its stages 1 to a' at tier 0 (R126); while STOPPED the
levels return to the stopped light level (R99). -/
def State.clearFire (s : State) (value : Nat) : State :=
  let s1 := ({ s with fire := false } : State).raise .fireReset 0 value
  let s2 : State := { s1 with outputs := s1.outputs.map OutputRec.unforceFire }
  if s2.running = true then
    s2.forEach 16 fun z t =>
      if s2.enabled z then
        let a := (s2.zone z).vent.credited
        (t.placeUnits .fan z fun _ u => if u ≤ a then some 0 else none).updZone z fun r =>
          { r with vent := { r.vent with stages := a } }
      else t
  else s2.setLevels s2.site.stoppedLevel

end Sys2Proof.Machine
end

