-- ==== Sys2Proof/Machine/LineUnit.lean ====
section
/-! DEFINITION. Input Lines, Doors and Fire Mode (01): the line sample and the debounced change, triggers and pending
flags, delivery to the roles, doors, and the rows LINE_SAMPLE, DEBOUNCED_CHANGE and HELD_OPEN_CHECK. -/

namespace Sys2Proof.Machine

/-! ### Doors (R12, R13) -/

/-- A door follows its conditions and its line (R12, R13): DISABLED while a condition holds; otherwise OPEN with the
opening counted where its line is ACTIVE and it was not open, and CLOSED where its line is INACTIVE. -/
def DoorRec.follow (now : Nat) (disabled active : Bool) (r : DoorRec) : DoorRec :=
  if disabled = true then { r with state := .disabled }
  else if active = true then
    if r.state.isOpen = true then r
    else { r with state := .opened, since := now, opens := min 65535 (r.opens + 1) }
  else { r with state := .closed }

/-- Door `d` follows its line (R12, R13); a HELD_OPEN door that closes raises DOOR_CLOSED_AFTER_HELD. -/
def State.followDoor (s : State) (d : Nat) : State :=
  let r := s.door d
  let s1 := s.updDoor d (DoorRec.follow s.now (s.doorDisabled d) (s.doorLineActive d))
  if r.state = .heldOpen ∧ s.doorDisabled d = false ∧ s.doorLineActive d = false then
    s1.raise .doorClosedAfterHeld d (saturate16 (s.secondsSince r.since))
  else s1

/-- The doors on line `l` follow it. -/
def State.followDoorsOf (s : State) (l : Nat) : State :=
  s.forEach 48 fun d t => if (s.doorCfg d).line = some l then t.followDoor d else t

/-- A door has stood open for its zone's held-open threshold (R13). -/
def State.heldOpenDue (s : State) (d : Nat) : Bool :=
  (s.door d).state == .opened && s.ranFor (s.door d).since (s.zoneCfg (s.doorCfg d).zone).heldOpen

/-- A door at a whole-second check (R13): an open door counts one open second, and one open for the threshold becomes
HELD_OPEN with DOOR_HELD_OPEN. -/
def State.checkDoor (s : State) (d : Nat) : State :=
  if (s.door d).state.isOpen = true then
    let s1 := s.updDoor d fun r => { r with openSeconds := min 65535 (r.openSeconds + 1) }
    if s.heldOpenDue d = true then
      (s1.updDoor d fun r => { r with state := .heldOpen }).raise .doorHeldOpen d (s.doorCfg d).zone
    else s1
  else s

/-- HELD_OPEN_CHECK (R13). -/
def execHeldOpenCheck (s : State) : Host.Outcome State Fault Refusal := .next (s.forEach 48 fun d t => t.checkDoor d)

/-! ### Triggers and pending flags (R4, R5) -/

/-- A debounced change to `active` is a trigger event of the mode, or the start of a LEVEL trigger (R4, R9, R10). -/
def TriggerMode.fires (m : TriggerMode) (active : Bool) : Bool :=
  match m with
  | .level => active
  | .toActive => active
  | .toInactive => !active
  | .both => true

/-- A trigger sets the pending flag; going from clear to set on an unmasked line queues LINE_TRIGGER (R4, R5). -/
def State.setPending (s : State) (l : Nat) : State :=
  if (s.line l).pending = true then s
  else
    let s1 := s.updLine l fun r => { r with pending := true }
    if (s.line l).inForce.masked = true then s1 else s1.raise .lineTrigger l (if (s.line l).active then 1 else 0)

/-- A LEVEL line whose trigger is present: enabled and ACTIVE (R4). -/
def State.levelPresent (s : State) (l : Nat) : Bool :=
  (s.line l).inForce.enable && (s.line l).trigger == .level && (s.line l).active

/-- An OCCUPANCY trigger sets the zone's activity mark while RUNNING, for an enabled zone (R9). -/
def State.markActivity (s : State) (z : Nat) : State :=
  if s.running = true ∧ s.enabled z = true then s.setMark z true else s

/-! ### Delivery to the roles (R9, R10, R13, R15) -/

/-- A debounced change of line `l` reaches its role; `fires` says it is a trigger of the line's mode. -/
def State.deliver (s : State) (l : Nat) (fires : Bool) : State :=
  let c := (s.line l).inForce
  match c.role with
  | .door => s.followDoorsOf l
  | .occupancy => if fires = true then s.markActivity c.zone else s
  | .fire => if (s.line l).active = true then s.setFire l else s
  | .purge => if fires = true then s.purgeRequest c.zone (s.purgeMinutes c.zone) else s
  | .meter => if fires = true then s.meterPulse l else s
  | .shed => s
  | .spare => s

/-! ### Sampling and debounce (R1 to R3) -/

/-- Line `l`'s logical level (R2). -/
def State.logical (s : State) (l : Nat) : Bool := logicalLevel (s.line l).inForce.polarity (s.line l).raw

/-- An enabled line's logical level has differed from its debounced state for at least the debounce time (R3). -/
def State.changeDue (s : State) (l : Nat) : Bool :=
  (s.line l).inForce.enable && s.logical l != (s.line l).active &&
  (s.line l).timer.any fun t => t + (s.line l).inForce.debounce ≤ s.now

/-- The debounced change of line `l` (R3): the state follows the logical level, the timer stops, the trigger mode last
written takes effect (R1), and the change is handed to the trigger (R4) and to the role. -/
def State.debouncedChange (s : State) (l : Nat) : State :=
  if s.changeDue l = true then
    let act := s.logical l
    let fires := (s.line l).inForce.trigger.fires act
    let s1 := s.updLine l fun r => { r with active := act, timer := none, trigger := r.inForce.trigger }
    (if fires = true then s1.setPending l else s1).deliver l fires
  else s

/-- DEBOUNCED_CHANGE (R3). -/
def execDebouncedChange (line : Fin 64) (s : State) : Host.Outcome State Fault Refusal := .next (s.debouncedChange line)

/-- A disabled line reads INACTIVE, its timer stopped and its pending flag clear (R1, R2). -/
def LineRec.disable (r : LineRec) : LineRec := { r with active := false, timer := none, pending := false }

/-- A written configuration takes effect (R1): a line turned off reads INACTIVE, and the trigger mode waits for the next
debounced change unless it is LEVEL, whose trigger is present from this sample. -/
def LineRec.take (c : LineConfig) (r : LineRec) : LineRec :=
  { (if c.enable then r else r.disable) with
      inForce := c, trigger := if c.trigger = .level then .level else r.trigger }

/-- The written configuration of line `l` takes effect (R1): the doors on it follow (R12), and a line that becomes a
FIRE line while ACTIVE sets the latch (R15). -/
def State.takeLineConfig (s : State) (l : Nat) : State :=
  let c := s.lineCfg l
  if (s.line l).inForce = c then s
  else
    let wasFire := s.lineIs l .fire
    let s1 := s.updLine l (LineRec.take c)
    let s2 := s1.followDoorsOf l
    if wasFire = false ∧ s2.lineIs l .fire = true ∧ (s2.line l).active = true then s2.setFire l else s2

/-- The debounce timer at a sample (R3): stopped where the levels agree, started where they differ and it is stopped. A
line that is not enabled keeps it stopped (R2). -/
def State.runTimer (s : State) (l : Nat) : State :=
  if (s.line l).inForce.enable = true then
    if s.logical l = (s.line l).active then s.updLine l fun r => { r with timer := none }
    else s.updLine l fun r => { r with timer := r.timer.or (some s.now) }
  else s

/-- A LEVEL line that is ACTIVE sets its pending flag whenever it is found clear (R4), and an OCCUPANCY one marks
activity (R9). -/
def State.levelTrigger (s : State) (l : Nat) : State :=
  if s.levelPresent l = true then
    let s1 := s.setPending l
    if s1.lineIs l .occupancy = true then s1.markActivity (s1.line l).inForce.zone else s1
  else s

/-- Line `l` at a 10 ms sample (R1 to R4): its raw level is recorded, its written configuration takes effect, its timer
is started or discarded, a change that is due takes place, and a LEVEL trigger that is present acts. -/
def State.sampleLine (s : State) (levels : LineLevels) (l : Nat) : State :=
  let s1 := (s.updLine l fun r => { r with raw := levels.getLsbD l }).takeLineConfig l
  ((s1.runTimer l).debouncedChange l).levelTrigger l

/-- LINE_SAMPLE (R2, R3). -/
def execLineSample (levels : LineLevels) (s : State) : Host.Outcome State Fault Refusal :=
  .next (({ s with pins := { s.pins with levels := levels } } : State).forEach 64 fun l t => t.sampleLine levels l)

/-! ### The initial take (R2, R12, R16) -/

/-- A line record at the initial take (R2). -/
def initialLine (c : LineConfig) (raw : Bool) : LineRec :=
  { raw := raw, active := c.enable && logicalLevel c.polarity raw, timer := none, pending := false, inForce := c,
    trigger := c.trigger }

/-- A door record at the initial take (R12). -/
def initialDoor (now : Nat) (disabled active : Bool) : DoorRec :=
  { state := if disabled then .disabled else if active then .opened else .closed,
    since := if disabled || !active then 0 else now, opens := 0, openSeconds := 0 }

/-- The line and door records of the initial take, from the levels of the first sample (R2, R12). -/
def State.takeLines (s : State) (levels : LineLevels) : State :=
  let s1 : State := { s with lines := (List.range 64).map fun l => initialLine (s.lineCfg l) (levels.getLsbD l) }
  { s1 with doors := (List.range 48).map fun d => initialDoor s1.now (s1.doorDisabled d) (s1.doorLineActive d) }

/-- The fire mode latch of the initial take (R16): set with FIRE_ON by the lowest-numbered ACTIVE FIRE line. -/
def State.takeFire (s : State) : State :=
  match (List.range 64).find? fun l => s.lineIs l .fire && (s.line l).active with
  | none => { s with fire := false }
  | some l => ({ s with fire := true } : State).raise .fireOn l 0

end Sys2Proof.Machine
end

