-- ==== Sys2Proof/Machine/MeasureUnit.lean ====
section
/-! DEFINITION. Measurement Channels (02): conversion, history, quality, and the rows CHANNEL_SAMPLE and
CHANNEL_HOLD_EXPIRY. -/

namespace Sys2Proof.Machine

/-- A sample is valid (R22). -/
def validSample (c : ChannelConfig) (code : Nat) : Bool := 16 ≤ code && code ≤ 4079 && c.codeLo < c.codeHi

/-- The role's range (R23). -/
def roleClamp (r : ChannelRole) (v : Int) : Int :=
  match r with
  | .zoneTemp => clampI (-400) 600 v
  | .outdoorTemp => clampI (-400) 600 v
  | .air => clampI 0 1000 v
  | .daylight => clampI 0 20000 v
  | .unused => v

/-- A valid sample's converted value: the line through the calibration points, truncated toward zero, clamped (R23). -/
def convert (c : ChannelConfig) (code : Nat) : Int :=
  roleClamp c.role
    (c.valueLo + (((code : Int) - c.codeLo) * (c.valueHi - c.valueLo)).tdiv ((c.codeHi : Int) - c.codeLo))

/-- The truncated mean of a history (R24). -/
def meanOf (h : List Int) : Int := h.sum.tdiv h.length

/-- A converted value appended to a history of at most four (R24). -/
def pushHistory (h : List Int) (v : Int) : List Int := (if h.length < 4 then h else h.drop (h.length - 3)) ++ [v]

/-- A record whose history is restarted with one value, GOOD (R21, R27). -/
def ChannelRec.restart (r : ChannelRec) (v : Int) : ChannelRec :=
  { r with history := [v], value := v, quality := .good, fresh := false }

/-- A record that has become LOST (R26). -/
def ChannelRec.lose (r : ChannelRec) : ChannelRec :=
  { r with history := [], value := 0, quality := .lost, fresh := false }

/-- The value CHANNEL_LOST carries (R26). -/
def lostValue (c : ChannelConfig) : Nat :=
  match c.role with
  | .zoneTemp => c.zone
  | .air => c.zone
  | _ => 0xFFFF

/-- Channel `c` becomes LOST with CHANNEL_LOST (R26). -/
def State.loseChannel (s : State) (c : Nat) : State :=
  (s.updChan c ChannelRec.lose).raise .channelLost c (lostValue (s.chanCfg c))

/-- The initial take of a channel whose sample has been recorded (R21). -/
def State.initialTake (s : State) (c code : Nat) : State :=
  if validSample (s.chanCfg c) code = true then s.updChan c fun r => r.restart (convert (s.chanCfg c) code)
  else s.loseChannel c

/-- A valid sample (R24, R27). -/
def State.validTake (s : State) (c code : Nat) : State :=
  let v := convert (s.chanCfg c) code
  match (s.chan c).quality with
  | .good =>
    s.updChan c fun r => { r with history := pushHistory r.history v, value := meanOf (pushHistory r.history v) }
  | .held => s.updChan c fun r => r.restart v
  | .lost => (s.updChan c fun r => r.restart v).raise .channelRecovered c (signedValue v)

/-- The hold time of a HELD channel's run of invalid samples has passed (R26). -/
def State.holdDue (s : State) (c : Nat) : Bool := s.ranFor (s.chan c).invalidSince (s.chanCfg c).hold

/-- An invalid sample (R25, R26). -/
def State.invalidTake (s : State) (c : Nat) : State :=
  match (s.chan c).quality with
  | .good => s.updChan c fun r => { r with quality := .held, invalidSince := s.now }
  | .held => if s.holdDue c = true then s.loseChannel c else s
  | .lost => s

/-- Channel `c`'s sample (R21 to R27). -/
def State.sampleChannel (s : State) (c code : Nat) : State :=
  let s1 := s.updChan c fun r => { r with code := code }
  if (s.chanCfg c).role = .unused then s1.updChan c ChannelRec.lose
  else if (s.chan c).fresh = true then s1.initialTake c code
  else if validSample (s.chanCfg c) code = true then s1.validTake c code
  else s1.invalidTake c

/-- The code presented for channel `c`. -/
def codeAt (codes : List (BitVec 12)) (c : Nat) : Nat := (codes.getD c 0).toNat

/-- CHANNEL_SAMPLE (R22). -/
def execChannelSample (codes : List (BitVec 12)) (s : State) : Host.Outcome State Fault Refusal :=
  .next (({ s with pins := { s.pins with codes := codes } } : State).forEach 24 fun c t =>
    t.sampleChannel c (codeAt codes c))

/-- CHANNEL_HOLD_EXPIRY (R26). -/
def execChannelHoldExpiry (channel : Fin 24) (s : State) : Host.Outcome State Fault Refusal :=
  .next (if (s.chan channel).quality = .held ∧ (s.chanCfg channel).role ≠ .unused ∧ (s.chan channel).fresh = false ∧
      s.holdDue channel = true then s.loseChannel channel else s)

/-- The channel records of the initial take, from the codes of the first sample (R21). -/
def State.takeChannels (s : State) (codes : List (BitVec 12)) : State :=
  let s1 : State := { s with channels := List.replicate 24 { blankChannel with fresh := true } }
  s1.forEach 24 fun c t => t.sampleChannel c (codeAt codes c)

end Sys2Proof.Machine
end

