-- ==== Sys2Proof/Machine/ConfigRequests.lean ====
section
/-! DEFINITION. CONFIG READ and CONFIG WRITE (R175), class by class, with what each write does at once. -/

namespace Sys2Proof.Machine

/-! ### Classes (R175) -/

/-- The number of items of a class. -/
def classItems : Nat → Nat
  | 0 => 1
  | 1 => 16
  | 2 => 48
  | 3 => 64
  | 4 => 24
  | 5 => 40
  | _ => 0

/-- The length of a class's record. -/
def recordLength : Nat → Nat
  | 0 => 44
  | 1 => 22
  | 2 => 2
  | 3 => 7
  | 4 => 12
  | 5 => 11
  | _ => 0

/-! ### CONFIG READ -/

/-- Whole seconds until a stamp, rounded up, 0 once it is past (R158; log 35). -/
def State.secondsUntil (s : State) (t : Nat) : Nat := ceilDiv (t - s.now) 100

/-- The seconds remaining of output `o`'s hold (R158). Where the hold is NONE the spec gives the field no value, and it
reads 0 (DESIGN CHOICE, log 35). -/
def State.holdRemaining (s : State) (o : Nat) : Nat :=
  match (s.out o).hold with
  | .none => 0
  | .minOn => s.secondsUntil ((s.out o).lastOn.getD 0 + 100 * (s.outCfg o).minOn)
  | .minOff => s.secondsUntil ((s.out o).lastOff.getD 0 + 100 * (s.outCfg o).minOff)

/-- The seconds remaining of output `o`'s test, FFh where none runs (12). -/
def State.testRemaining (s : State) (o : Nat) : Nat :=
  match (s.out o).testEnd with
  | none => 0xFF
  | some e => s.secondsUntil e

/-- The value of channel `c` as reported: 0 for a channel whose role is NONE (R21). -/
def State.shownValue (s : State) (c : Nat) : Int := if (s.chanCfg c).role = .unused then 0 else (s.chan c).value

/-- Item `i`'s record of a class. -/
def State.recordBytes (s : State) (cls i : Nat) : List Byte :=
  match cls with
  | 0 => s.site.bytes
  | 1 => (s.zoneCfg i).bytes
  | 2 => (s.doorCfg i).bytes
  | 3 => (s.lineCfg i).bytes
  | 4 => (s.chanCfg i).bytes
  | 5 => (s.outCfg i).bytes
  | _ => []

/-- The live state CONFIG READ returns after the record (R33, R48, R158). Drive numbers its values in its table's
order, ON 0 and OFF 1; the commanded value is as OUTPUT SET gives it (log 14). -/
def State.liveBytes (s : State) (cls i : Nat) : List Byte :=
  match cls with
  | 1 => u8 (s.outputsOfZone i).length ++ (s.outputsOfZone i).flatMap u8
  | 4 => u16 (s.chan i).code ++ s16 (s.shownValue i) ++ u8 (s.shownQuality i).code
  | 5 =>
    yesNo (!s.pinOn i) ++ u8 (s.out i).grant.code ++ u8 (s.out i).forced.code ++ u8 (s.out i).hold.code ++
    u16 (s.holdRemaining i) ++ yesNo (s.out i).commanded ++ u8 (s.pattern i).code ++ u8 (s.testRemaining i)
  | _ => []

/-- CONFIG READ's own checks after its length, and its reply (R175). -/
def State.configReadBody (b : List Byte) (s : State) : State × Reply :=
  if 5 < rd8 b 0 ∨ classItems (rd8 b 0) ≤ rd8 b 1 then answer .badReference s
  else taken (u8 (rd8 b 0) ++ u8 (rd8 b 1) ++ s.recordBytes (rd8 b 0) (rd8 b 1) ++ s.liveBytes (rd8 b 0) (rd8 b 1)) s

/-- CONFIG READ (R175). -/
def execConfigRead (port : Port) (payload : List Byte) (s : State) : Host.Outcome State Fault Refusal :=
  .next (s.serve port .configRead payload (withLength 2 payload (State.configReadBody payload)))

/-! ### What a write does at once -/

/-- A write is taken, its reply CLAMPED where any value was (R174). -/
def written (clamped : Bool) (s : State) : State × Reply :=
  (s, { status := if clamped then .clamped else .ok, data := [] })

/-- The level a zone's lights are held at while STOPPED (R99): the stopped light level, 100 in fire mode, 0 for a zone
that is not enabled. -/
def State.stoppedLevelFor (s : State) (enabled : Bool) : Nat :=
  if enabled = true then (if s.fire = true then 100 else s.site.stoppedLevel) else 0

/-- Zone `z`'s configuration taken: a raised F acts at once while RUNNING (R87), and a zone enabled or disabled while
STOPPED takes its level (R99). -/
def State.putZone (s : State) (z : Nat) (c : ZoneConfig) : State :=
  let old := s.zoneCfg z
  let s1 := s.updSettings fun k => { k with zones := k.zones.set z c }
  if s.running = true then
    if old.floor < c.floor ∧ c.enabled = true then s1.raiseToFloor z else s1
  else if old.enabled = c.enabled then s1
  else s1.updZone z fun r => { r with light := stoppedLight c (s1.stoppedLevelFor c.enabled) }

/-- Door `d`'s configuration taken: the door follows its conditions and its line (R12). -/
def State.putDoor (s : State) (d : Nat) (c : DoorConfig) : State :=
  (s.updSettings fun k => { k with doors := k.doors.set d c }).followDoor d

/-- Line `l`'s configuration taken: it takes effect at the next sample, but a line turned off reads INACTIVE at once
(R1). -/
def State.putLine (s : State) (l : Nat) (c : LineConfig) : State :=
  let s1 := s.updSettings fun k => { k with lines := k.lines.set l c }
  if c.enable = false ∧ (s.line l).inForce.enable = true then
    (s1.updLine l fun r => { r.disable with inForce := { r.inForce with enable := false } }).followDoorsOf l
  else s1

/-- Channel `n`'s configuration taken: a change of role, zone or calibration restarts the channel at its next sample
(R20), and a channel whose role becomes NONE keeps its code and nothing else (R21). -/
def State.putChannel (s : State) (n : Nat) (c : ChannelConfig) : State :=
  let s1 := s.updSettings fun k => { k with channels := k.channels.set n c }
  if (s.chanCfg n).sameStructure c = true then s1
  else s1.updChan n fun r => { (if c.role = .unused then r.lose else r) with fresh := true }

/-- An output record after a change of function or reference (R147): the test ended, the commanded value OFF, and a load
output held off by STOP, since the part is STOPPED (R148; DEDUCED, log 36). -/
def OutputRec.rewire (now : Nat) (old new : OutputConfig) (r : OutputRec) : OutputRec :=
  let r1 := { r.endTest now old with commanded := false }
  if new.function.isLoad = true then { r1 with forced := .stop } else r1

/-- Output `o`'s configuration taken (R147); unit and stage counts are formed from it when read (R104, R119). -/
def State.putOutput (s : State) (o : Nat) (c : OutputConfig) : State :=
  let old := s.outCfg o
  let s1 := s.updSettings fun k => { k with outputs := k.outputs.set o c }
  if old.sameStructure c = true then s1 else s1.updOut o (OutputRec.rewire s.now old c)

/-- A change of the fire fan action while the latch is set (R126, R151): EXHAUST turns forced FIRE on the FAN outputs to
NONE before its requests. -/
def State.changeFireFan (s : State) : State :=
  match s.site.fireFan with
  | .off => s.fireFans
  | .exhaust =>
    (s.forEach 40 fun o t =>
      if (s.outCfg o).function = .fan then t.updOut o OutputRec.unforceFire else t).fireFans

/-- The SITE record taken: the stopped light level applies at once while STOPPED and outside fire mode (R87, R99), and a
changed fire fan action while the latch is set (R117, R126). -/
def State.putSite (s : State) (c : SiteConfig) : State :=
  let s1 := s.updSettings fun k => { k with site := c }
  if s.fire = true then
    if s.site.fireFan = c.fireFan then s1 else s1.changeFireFan
  else if s.running = true then s1
  else s1.setLevels c.stoppedLevel

/-! ### CONFIG WRITE -/

/-- CONFIG WRITE of the SITE record from its class checks on (R175, steps 5 to 8). -/
def State.writeSite (b : List Byte) (s : State) : State × Reply :=
  match SiteConfig.ofBytes b with
  | none => answer .badReference s
  | some c =>
    if c.refsOk = false then answer .badReference s
    else if s.running = true ∧ s.site.sameStructure c.clamped = false then answer .notStopped s
    else if s.running = true ∧ (s.context c.fallback).isNone = true then answer .emptyContext s
    else if s.running = true ∧ c.clamped.increasing = false then answer .badReference s
    else written (c.clamped != c) (s.putSite c.clamped)

/-- CONFIG WRITE of a ZONE record (R34). -/
def State.writeZone (z : Nat) (b : List Byte) (s : State) : State × Reply :=
  match ZoneConfig.ofBytes b with
  | none => answer .badReference s
  | some c =>
    if s.zoneRefsOk z c = false then answer .badReference s
    else if s.running = true ∧ (s.zoneCfg z).sameStructure c = false then answer .notStopped s
    else written (c.clamped != c) (s.putZone z c.clamped)

/-- CONFIG WRITE of a DOOR record (R11); both fields are structural. -/
def State.writeDoor (d : Nat) (b : List Byte) (s : State) : State × Reply :=
  let c := DoorConfig.ofBytes b
  if s.doorRefsOk d c = false then answer .badReference s
  else if s.running = true ∧ s.doorCfg d ≠ c then answer .notStopped s
  else written false (s.putDoor d c)

/-- CONFIG WRITE of a LINE record (R1). -/
def State.writeLine (l : Nat) (b : List Byte) (s : State) : State × Reply :=
  match LineConfig.ofBytes b with
  | none => answer .badReference s
  | some c =>
    if 15 < c.zone then answer .badReference s
    else if s.running = true ∧ (s.lineCfg l).sameStructure c = false then answer .notStopped s
    else written false (s.putLine l c)

/-- CONFIG WRITE of a CHANNEL record (R20). -/
def State.writeChannel (n : Nat) (b : List Byte) (s : State) : State × Reply :=
  match ChannelConfig.ofBytes b with
  | none => answer .badReference s
  | some c =>
    if s.channelRefsOk n c = false then answer .badReference s
    else if s.running = true ∧ (s.chanCfg n).sameStructure c = false then answer .notStopped s
    else written (c.clamped != c) (s.putChannel n c.clamped)

/-- CONFIG WRITE of an OUTPUT record (R147). -/
def State.writeOutput (o : Nat) (b : List Byte) (s : State) : State × Reply :=
  match OutputConfig.ofBytes (s.outCfg o) b with
  | none => answer .badReference s
  | some c =>
    if s.outputRefsOk o c = false then answer .badReference s
    else if s.running = true ∧ (s.outCfg o).sameStructure c = false then answer .notStopped s
    else written (c.clamped != c) (s.putOutput o c.clamped)

/-- CONFIG WRITE by class and item, once both are known to exist. -/
def State.writeClass (cls i : Nat) (b : List Byte) (s : State) : State × Reply :=
  match cls with
  | 0 => s.writeSite b
  | 1 => s.writeZone i b
  | 2 => s.writeDoor i b
  | 3 => s.writeLine i b
  | 4 => s.writeChannel i b
  | _ => s.writeOutput i b

/-- CONFIG WRITE's checks in the order of R175. The class and item are the payload's, whichever row carries it
(log 12). -/
def State.configWriteBody (b : List Byte) (s : State) : State × Reply :=
  if b.length < 2 then answer .badLength s
  else if 5 < rd8 b 0 then answer .badReference s
  else if b.length ≠ 2 + recordLength (rd8 b 0) then answer .badLength s
  else if classItems (rd8 b 0) ≤ rd8 b 1 then answer .badReference s
  else s.writeClass (rd8 b 0) (rd8 b 1) (b.drop 2)

/-- CONFIG WRITE of the SITE record (R175). -/
def execConfigWriteSite (port : Port) (payload : List Byte) (s : State) : Host.Outcome State Fault Refusal :=
  .next (s.serve port .configWrite payload (State.configWriteBody payload))

/-- CONFIG WRITE of a ZONE record (R34, R175). -/
def execConfigWriteZone (port : Port) (payload : List Byte) (s : State) : Host.Outcome State Fault Refusal :=
  .next (s.serve port .configWrite payload (State.configWriteBody payload))

/-- CONFIG WRITE of a DOOR record (R11, R175). -/
def execConfigWriteDoor (port : Port) (payload : List Byte) (s : State) : Host.Outcome State Fault Refusal :=
  .next (s.serve port .configWrite payload (State.configWriteBody payload))

/-- CONFIG WRITE of a LINE record (R1, R175). -/
def execConfigWriteLine (port : Port) (payload : List Byte) (s : State) : Host.Outcome State Fault Refusal :=
  .next (s.serve port .configWrite payload (State.configWriteBody payload))

/-- CONFIG WRITE of a CHANNEL record (R20, R175). -/
def execConfigWriteChannel (port : Port) (payload : List Byte) (s : State) : Host.Outcome State Fault Refusal :=
  .next (s.serve port .configWrite payload (State.configWriteBody payload))

/-- CONFIG WRITE of an OUTPUT record (R147, R175). -/
def execConfigWriteOutput (port : Port) (payload : List Byte) (s : State) : Host.Outcome State Fault Refusal :=
  .next (s.serve port .configWrite payload (State.configWriteBody payload))

end Sys2Proof.Machine
end

