-- ==== Sys2Proof/Machine/Heating.lean ====
section
/-! DEFINITION. Heating and Door Compensation (07): the heating step of the zone evaluation. -/

namespace Sys2Proof.Machine

/-- The effective setpoint S (R102). -/
def effectiveSetpoint (o : Occupancy) (p : ProgFields) : Int :=
  let base : Int := if o = .vacant then (p.setpoint : Int) - p.setback else p.setpoint
  match p.preheat with
  | some h => if base < h then h else base
  | none => base

/-- The temperature stage k (R105). -/
def nextStage (count band : Nat) (heat : Bool) (setpoint : Int) (temp : Option Int) (k : Nat) : Nat :=
  match temp with
  | none => 0
  | some t =>
    if heat = false then 0
    else if ((k : Int) + 1) * band ≤ setpoint - t ∧ k < count then k + 1
    else if setpoint - t ≤ ((k : Int) - 1) * band ∧ 0 < k then k - 1
    else k

/-- The cold condition (R106). -/
def isCold (outdoor setpoint : Int) : Bool := outdoor ≤ setpoint - 50

/-- The door debt D (R107). -/
def nextDebt (cold : Bool) (n decay debt : Nat) : Nat :=
  if n = 0 then debt - decay
  else if cold = true then min 3600 (debt + n)
  else debt

/-- The debt stage j (R108). -/
def debtStageOf (step debt : Nat) : Nat := if debt < step then 0 else if debt < 2 * step then 1 else 2

/-- Frost guard (R111). -/
def frostGuard (temp : Option Int) (outdoor : Int) : Bool :=
  match temp with
  | some t => t < 50
  | none => outdoor < 50

/-- The units requested r: staged request, override, frost guard, fire (R109). -/
def unitsRequested (count k j : Nat) (heat : Bool) (override : Option Nat) (frost fire : Bool) : Nat :=
  let staged := min count (k + if heat then j else 0)
  let r2 := match override with
    | some v => min v count
    | none => staged
  let r3 := if frost = true ∧ 1 ≤ count then max 1 r2 else r2
  if fire = true then 0 else r3

/-- The heating fields a heating step leaves in zone `z` (R102 to R113). -/
def State.heatFields (s : State) (z : Nat) : HeatFields :=
  let c := s.zoneCfg z
  let r := s.zone z
  let count := s.heaterUnits z
  let temp := s.zoneTemp z
  let sp := effectiveSetpoint r.occ.state r.prog
  let k := nextStage count c.heatBand r.prog.heat sp temp r.heat.stage
  let cold := isCold s.outdoor sp
  let debt := nextDebt cold (s.doorsOpen z) c.debtDecay r.heat.debt
  let j := debtStageOf c.debtStep debt
  let frost := frostGuard temp s.outdoor
  { setpoint := sp, stage := k, cold := cold, debt := debt, debtStage := j, frost := frost,
    units := unitsRequested count k j r.prog.heat (s.override z .heat) frost s.fire }

/-- The request of heater unit `u` at output `o` (R109, R111). -/
def State.unitRequest (s : State) (h : HeatFields) (o u : Nat) : Option Nat :=
  if u ≤ h.units then (if u = 1 ∧ h.frost = true then some 0 else some (s.outCfg o).tier) else none

/-- A door's curtain is requested (R112). -/
def State.curtainWanted (s : State) (z d : Nat) (cold : Bool) : Bool :=
  (s.door d).state.isOpen && cold && (s.zone z).prog.heat && !s.fire

/-- The curtain requests of zone `z`'s doors (R112). -/
def State.placeCurtains (s : State) (z : Nat) (cold : Bool) : State :=
  s.forEach 40 fun o t =>
    match (s.outCfg o).ref with
    | .door d =>
      if (s.outCfg o).function = .curtain ∧ (s.doorCfg d).zone = z then
        t.place o (if s.curtainWanted z d cold then some (s.outCfg o).tier else none)
      else t
    | _ => t

/-- Step 4 of the evaluation (07). -/
def State.heatingStep (s : State) (z : Nat) : State :=
  let h := s.heatFields z
  let s1 := s.updZone z fun r => { r with heat := h }
  (s1.placeUnits .heater z (s.unitRequest h)).placeCurtains z h.cold

end Sys2Proof.Machine
end

