-- ==== Sys2Proof/Machine/Evaluation.lean ====
section
/-! DEFINITION. The zone evaluation event (R36): its six steps in order, the arrival checks among them (R46), and the row
ZONE_EVALUATION. -/

namespace Sys2Proof.Machine

/-- The HEAT arrival test (R76). -/
def State.heatArrived (s : State) (z : Nat) : Bool :=
  let r := s.zone z
  match s.zoneTemp z with
  | none => true
  | some t => !r.prog.heat || r.heat.setpoint - 10 ≤ t

/-- The VENT arrival test (R77). -/
def State.ventArrived (s : State) (z : Nat) : Bool :=
  let r := s.zone z
  min r.prog.ventMin (s.fanStages z) ≤ s.grantedFanStage z && r.vent.purgeEnd.isNone

/-- Step 6 of the evaluation (R46): LIGHT, HEAT and VENT are checked and report their arrival. -/
def State.arrivalStep (s : State) (z : Nat) : State :=
  let s1 := s.lightArrival z
  let s2 := if s1.heatArrived z = true then s1.arrive z .heat else s1
  if s2.ventArrived z = true then s2.arrive z .vent else s2

/-- The evaluation of zone `z` (R36). -/
def State.evalZone (s : State) (z : Nat) : State :=
  ((((((s.occupancyStep z).resolveStep z).lightingStep z).heatingStep z).ventilationStep z).arrivalStep z)

/-- The zone evaluation event, raised while RUNNING (R36). The manual leaves the order of the zones within a second open
(R36, R74): they are taken in ascending order (DESIGN CHOICE, log 42), so that after the report that completes a handover
the zones above it resolve from CURRENT in the same second. -/
def State.evaluate (s : State) : State :=
  if s.running = true then s.forEach 16 fun z t => if s.enabled z then t.evalZone z else t else s

/-- ZONE_EVALUATION (R36). -/
def execZoneEvaluation (s : State) : Host.Outcome State Fault Refusal := .next s.evaluate

end Sys2Proof.Machine
end

