-- ==== Sys2Proof/Machine/LinkRequests.lean ====
section
/-! DEFINITION. The requests of the Link Unit (12): IDENT, STATUS, EVENTS, NOTICES and SAVE, and the row
SAVE_WRITE_COMPLETE. -/

namespace Sys2Proof.Machine

/-! ### Identification and status (R180) -/

/-- The bytes of a text's characters. -/
def textBytes (t : String) : List Byte := t.toList.map fun c => BitVec.ofNat 8 c.toNat

/-- The capacity table (R180). -/
def capacityTable : List Nat :=
  [Config.zones, Config.doors, Config.lines, Config.channels, Config.outputs, 16, Config.contexts, Config.pool,
   Config.slots, Config.lookAhead, Config.locks, Config.eventQueue, Config.snapshotBytes, Config.pageBytes]

/-- The 40 bytes of IDENT's reply; the silicon revision is a free value (log 27). -/
def identBytes : List Byte :=
  textBytes "HACOVIN" ++ textBytes "SC16" ++ [Config.siliconRevision] ++ capacityTable.flatMap u16

/-- IDENT (R180). -/
def execIdent (port : Port) (payload : List Byte) (s : State) : Host.Outcome State Fault Refusal :=
  .next (s.serve port .ident payload (withLength 0 payload (taken identBytes)))

/-- The 13 bytes of STATUS's reply to port `p` (R180). -/
def State.statusBytes (s : State) (p : Port) : List Byte :=
  yesNo s.running ++ yesNo s.fire ++ u8 (partyCode s.authority.holder) ++
  u8 (partyCode (s.authority.claim.map Claim.claimant)) ++ yesNo s.link.sup.alive ++ u8 s.link.sup.rate.code ++
  yesNo s.link.pan.alive ++ u8 s.link.pan.rate.code ++ yesNo s.clock.valid ++ yesNo s.store.saving.isSome ++
  u8 (s.port p).lost ++ yesNo s.outdoorSubstituted ++ yesNo s.store.loaded

/-- STATUS (R180). -/
def execStatus (port : Port) (payload : List Byte) (s : State) : Host.Outcome State Fault Refusal :=
  .next (s.serve port .status payload (withLength 0 payload fun t => taken (t.statusBytes port) t))

/-! ### Events and notices (R176, R177) -/

/-- EVENTS' reply, with the records it returns removed and the lost count set to 0 (R176). -/
def State.eventsBody (p : Port) (s : State) : State × Reply :=
  let q := (s.port p).events
  taken (u8 (s.port p).lost ++ u8 (min 8 q.length) ++ (q.take 8).flatMap EventRec.bytes)
    (s.updPort p fun r => { r with events := r.events.drop 8, lost := 0 })

/-- EVENTS (R176). -/
def execEvents (port : Port) (payload : List Byte) (s : State) : Host.Outcome State Fault Refusal :=
  .next (s.serve port .events payload (withLength 0 payload (State.eventsBody port)))

/-- NOTICES' check of its value, and its effect (R177). -/
def State.noticesBody (b : List Byte) (s : State) : State × Reply :=
  if 1 < rd8 b 0 then answer .badReference s
  else taken [] { s with link := { s.link with notices := rd8 b 0 = 1 } }

/-- NOTICES (R177). -/
def execNotices (port : Port) (payload : List Byte) (s : State) : Host.Outcome State Fault Refusal :=
  .next (s.serve port .notices payload (withLength 1 payload (State.noticesBody payload)))

/-! ### Stored settings (R181) -/

/-- SAVE is busy (R181). -/
def State.saveBusy (s : State) : Bool := s.store.saving.isSome

/-- SAVE (R181): the settings are captured, SAVE becomes busy and the old completion marker is invalidated. -/
def State.saveBody (s : State) : State × Reply :=
  if s.saveBusy = true then answer .busy s
  else taken [] { s with store := { s.store with image := none, saving := some s.settings } }

/-- SAVE (R181). -/
def execSave (port : Port) (payload : List Byte) (s : State) : Host.Outcome State Fault Refusal :=
  .next (s.serve port .save payload (withLength 0 payload State.saveBody))

/-- The contexts an image holds: the non-EMPTY ones (R181). -/
def Settings.contextCount (k : Settings) : Nat := k.contexts.countP Option.isSome

/-- SAVE_WRITE_COMPLETE (R181): the image and its marker are written, SAVE busy clears and SAVE_DONE is queued. -/
def execSaveWriteComplete (s : State) : Host.Outcome State Fault Refusal :=
  .next (match s.store.saving with
    | none => s
    | some k =>
      ({ s with store := { s.store with image := some k, saving := none } } : State).raise .saveDone 0 k.contextCount)

end Sys2Proof.Machine
end

