-- ==== Sys2Proof/Machine/RunMode.lean ====
section
/-! DEFINITION. Power-on, RESTART and the run modes (R182, R183): the rows START, STOP, RESTART and POWER_ON. -/

namespace Sys2Proof.Machine

/-! ### The validation of START (R183) -/

/-- Check 1: a configured door whose zone is not enabled, or whose line's role is not DOOR. -/
def State.badDoor (s : State) (d : Nat) : Bool :=
  match (s.doorCfg d).line with
  | none => false
  | some l => !s.enabled (s.doorCfg d).zone || (s.lineCfg l).role != .door

/-- Check 2: the second line of role METER. -/
def State.secondMeter (s : State) : Option Nat :=
  ((List.range 64).filter fun l => (s.lineCfg l).role == .meter)[1]?

/-- Check 4: a non-EMPTY context whose demand cap exceeds the site ceiling. -/
def State.badCap (s : State) (c : Nat) : Bool := (s.context c).any fun k => s.site.ceiling < k.cap

/-- Check 6: an output that names a zone that is not enabled, or a door that is not configured. -/
def State.badOutput (s : State) (o : Nat) : Bool :=
  match (s.outCfg o).ref with
  | .nothing => false
  | .zone z _ => !s.enabled z
  | .door d => !s.doorConfigured d

/-- Check 7: a channel with a role whose calibration points do not rise. -/
def State.badChannel (s : State) (c : Nat) : Bool :=
  (s.chanCfg c).role != .unused && (s.chanCfg c).codeHi ≤ (s.chanCfg c).codeLo

/-- Check 8: an enabled OCCUPANCY or PURGE line that names a zone that is not enabled. -/
def State.badLine (s : State) (l : Nat) : Bool :=
  (s.lineCfg l).enable && ((s.lineCfg l).role == .occupancy || (s.lineCfg l).role == .purge) &&
  !s.enabled (s.lineCfg l).zone

/-- The item at which check `k` first fails, in ascending item order. -/
def State.checkFails (s : State) (k : Nat) : Option Nat :=
  match k with
  | 1 => (List.range 48).find? s.badDoor
  | 2 => s.secondMeter
  | 3 => if s.site.increasing = true then none else some 0
  | 4 => (List.range 16).find? s.badCap
  | 5 => if (s.context s.site.fallback).isNone = true then some s.site.fallback else none
  | 6 => (List.range 40).find? s.badOutput
  | 7 => (List.range 24).find? s.badChannel
  | _ => (List.range 64).find? s.badLine

/-- START's validation: the first check that fails, with its item (R183). -/
def State.validate (s : State) : Option (Nat × Nat) :=
  [1, 2, 3, 4, 5, 6, 7, 8].findSome? fun k => (s.checkFails k).map fun i => (k, i)

/-! ### START (R183) -/

/-- The fire latch tested by START (R16): cleared where every FIRE line is INACTIVE. -/
def State.startLatch (s : State) : State := if s.fire = true ∧ s.fireLineActive = false then s.clearFire 1 else s

/-- What START leaves an output forced to (R152): NONE, or FIRE where the latch stays set and the function is HEATER,
CURTAIN, or FAN under the action OFF. -/
def startForced (fire : Bool) (action : FireFan) (f : OutputFunction) : Forced :=
  if fire = true ∧ (f = .heater ∨ f = .curtain ∨ (f = .fan ∧ action = .off)) then .fire else .none

/-- START on the outputs (R152, R157): every test ends, and the forcings are set anew. -/
def State.startOutputs (s : State) : State :=
  s.endTests.forEach 40 fun o t =>
    t.updOut o fun r => { r with forced := startForced s.fire s.site.fireFan (s.outCfg o).function }

/-- An enabled zone's record at START (R47, R99): OCCUPIED with a full hold, P raised to F, no arrivals. Its lighting
rated watts and trim tier in force are the configuration's, from which START forms the load list anew (R138; log 47). -/
def ZoneRec.begin (now : Nat) (c : ZoneConfig) (r : ZoneRec) : ZoneRec :=
  { r with
      occ := { r.occ with state := .occupied, holdStart := now, activity := false, rise := false }
      light := { r.light with present := max r.light.present c.floor, rated := c.rated, trimTier := c.trimTier }
      marks := noMarks }

/-- START on the zones (R47, R99). -/
def State.startZones (s : State) : State :=
  s.forEach 16 fun z t =>
    if s.enabled z then t.updZone z (ZoneRec.begin s.now (s.zoneCfg z)) else t

/-- START on the Load Allocator (R146): the window opens and the round timer starts. -/
def State.startAlloc (s : State) : State :=
  (s.updAlloc fun a =>
    { a with rot1 := 0, rot2 := 0, rot3 := 0, nextRound := some (s.now + 100 * s.site.period), pulses := 0,
             wattSeconds := 0, uEst := 0, meterLost := false, lastPulse := some s.now, record := emptyRecord }).openWindow

/-- Both counts of every door reset (R12). -/
def State.clearDoorCounts (s : State) : State :=
  { s with doors := s.doors.map fun d => { d with opens := 0, openSeconds := 0 } }

/-- A START that passes its validation, in the order of R183's effects: the latch test, the outputs, the doors, CURRENT
and the zones, the queue where the clock is VALID, the allocator. -/
def State.begin (s : State) : State :=
  let s1 := ({ s with runMode := .running } : State).startLatch.startOutputs.clearDoorCounts.installByCalendar.startZones
  (if s1.clock.valid = true then s1.fillQueue else s1).startAlloc

/-- START decided (R183). -/
def State.startBody (s : State) : State × Reply :=
  if s.running = true then answer .notStopped s
  else match s.validate with
    | some (k, i) => (s, { status := .configError, data := u8 k ++ u8 i })
    | none => taken [] s.begin

/-- START (R183). -/
def execStart (port : Port) (payload : List Byte) (s : State) : Host.Outcome State Fault Refusal :=
  .next (s.serve port .start payload (withLength 0 payload State.startBody))

/-! ### STOP (R183) -/

/-- A zone's record at STOP (R47, R99, R115, R128), its lights held at `level`. -/
def ZoneRec.cease (c : ZoneConfig) (level : Nat) (r : ZoneRec) : ZoneRec :=
  { occ := { r.occ with state := .vacant, activity := false, rise := false }
    prog := idleProg c
    light := stoppedLight c level
    heat := stoppedHeat c
    vent := { r.vent with air := 0, credited := 0, nonAir := 0, stages := 0, alarm := false, purgeEnd := none }
    marks := noMarks }

/-- STOP on the zones, with their activity marks cleared (R18, R47). -/
def State.stopZones (s : State) : State :=
  { s.forEach 16 fun z t => t.updZone z (ZoneRec.cease (s.zoneCfg z) (s.stoppedLevelFor (s.enabled z))) with
    activity := List.replicate 16 false }

/-- STOP on the load outputs (R152). -/
def State.stopOutputs (s : State) : State :=
  s.forEach 40 fun o t => if s.isLoad o then t.updOut o (OutputRec.forceStop s.now (s.outCfg o)) else t

/-- STOP on the Load Allocator, its window closed already (R146). What becomes of the last-pulse time is not stated: its
stamp is kept (DESIGN CHOICE, log 50). -/
def State.stopAlloc (s : State) : State :=
  s.updAlloc fun a => { a with nextRound := none, pulses := 0, wattSeconds := 0, meterLost := false }

/-- STOP's effects (R183): the window closes by the context still in force (R132), every lock is released (R169), every
active context becomes STORED with the queue cleared and any handover abandoned (R68, R85), and zones, outputs and
allocator are reset. -/
def State.cease (s : State) : State :=
  let s1 := (s.closeWindow true s.windowRan).releaseLocks (fun _ => true) 4
  (({ s1 with runMode := .stopped, programme := .none, queue := [] } : State).stopZones.stopOutputs).stopAlloc

/-- STOP decided (R183). -/
def State.stopBody (s : State) : State × Reply :=
  if s.running = false then answer .notRunning s else taken [] s.cease

/-- STOP (R183). -/
def execStop (port : Port) (payload : List Byte) (s : State) : Host.Outcome State Fault Refusal :=
  .next (s.serve port .stop payload (withLength 0 payload State.stopBody))

/-! ### Power-on and RESTART (R182) -/

/-- The settings a part with this stored image works from (R182). -/
def Store.settings (k : Store) : Settings := k.image.getD factorySettings

/-- Every block as power-on and RESTART both set it, before its initial take (R182): the settings loaded, STOPPED, no
authority, every lock EMPTY. The calendar's, allocator's and outputs' records start as R68, R146 and R148 give. -/
def State.reload (s : State) : State :=
  { s with
      runMode := .stopped
      settings := s.store.settings
      store := { image := s.store.image, saving := none, loaded := s.store.image.isSome }
      fire := false
      activity := List.replicate 16 false
      programme := .none
      queue := []
      readAt := 0
      alloc := bootAlloc
      outputs := List.replicate 40 bootOutput
      authority := { holder := none, claim := none }
      locks := List.replicate 48 none }

/-- Zone records as power-on and RESTART set them (R35, R88, R101, R118). -/
def State.bootZones (s : State) : State :=
  { s with zones := (List.range 16).map fun z => bootZone (s.zoneCfg z) (s.stoppedLevelFor (s.enabled z)) }

/-- The initial take of every block (R182, step 6), after SETTINGS_INVALID where factory defaults were loaded. -/
def State.initialTakes (s : State) (levels : LineLevels) (codes : List (BitVec 12)) : State :=
  let s1 := if s.store.loaded = true then s else s.raise .settingsInvalid 0 0
  let s2 : State := { s1 with pins := { levels := levels, codes := codes } }
  ((s2.takeLines levels).takeChannels codes).takeFire.bootZones

/-- Autostart (R182, step 7): START's effects, or START_REFUSED with the check and item that failed. -/
def State.autostart (s : State) : State :=
  if s.site.autostart = true then
    match s.validate with
    | none => s.begin
    | some (k, i) => s.raise .startRefused k i
  else s

/-- Power-on (R182): the elapsed-time base, the clock, the ports, the snapshots and the pattern generators start afresh;
of what the part held, the stored image alone is left. -/
def State.powerOn (s : State) (levels : LineLevels) (codes : List (BitVec 12)) : State :=
  let s1 := s.reload
  let s2 : State :=
    { s1 with
        now := 0
        clock := bootClock s1.site.clockTrim
        link := { sup := bootPort, pan := bootPort, notices := false }
        snaps := { fill := none, newest := none, heldSup := none, heldPan := none, count := 0,
                   nextAt := 100 * s1.site.period }
        slowOn := true
        fastOn := true }
  (s2.initialTakes levels codes).autostart

/-- POWER_ON (R182). -/
def execPowerOn (levels : LineLevels) (codes : List (BitVec 12)) (s : State) : Host.Outcome State Fault Refusal :=
  .next (s.powerOn levels codes)

/-- A port at RESTART (R172, R176): its queue emptied and its lost count 0, all else kept. -/
def PortRec.reboot (p : PortRec) : PortRec := { p with events := [], lost := 0 }

/-- RESTART (R182): as power-on, but the clock, the ports' rate, liveness and last-frame time, the snapshot buffers and
their count are kept; notices become OFF, and the first composition falls P seconds on (R178). -/
def State.reboot (s : State) (levels : LineLevels) (codes : List (BitVec 12)) : State :=
  let s1 := s.reload
  let s2 : State :=
    { s1 with
        link := { sup := s1.link.sup.reboot, pan := s1.link.pan.reboot, notices := false }
        snaps := { s1.snaps with nextAt := s1.now + 100 * s1.site.period } }
  (s2.initialTakes levels codes).autostart

/-- RESTART decided (R182): refused while SAVE is busy. -/
def State.restartBody (levels : LineLevels) (codes : List (BitVec 12)) (s : State) : State × Reply :=
  if s.saveBusy = true then answer .busy s else taken [] (s.reboot levels codes)

/-- RESTART (R182). -/
def execRestart (port : Port) (payload : List Byte) (levels : LineLevels) (codes : List (BitVec 12)) (s : State) :
    Host.Outcome State Fault Refusal :=
  .next (s.serve port .restart payload (withLength 0 payload (State.restartBody levels codes)))

end Sys2Proof.Machine
end

