-- ==== Sys2Proof/Machine/Snapshots.lean ====
section
/-! DEFINITION. Snapshots (R178, R179): the layout of Record formats, the composition, the four buffers by their roles, and
the rows SNAPSHOT and SNAPSHOT_COMPOSITION. -/

namespace Sys2Proof.Machine

/-! ### The layout (12, "Snapshot") -/

/-- A reading in its 16 bits, 8000h where LOST. -/
def readingField (r : Option Int) : Nat × Nat :=
  match r with
  | none => (16, 0x8000)
  | some v => signedField 16 v

/-- A context number, 31 for absent. -/
def contextField (c : Option Nat) : Nat × Nat := (5, c.getD 31)

/-- A power or an energy of the site part: 11 bits in units of 4 kW or 4 kWh, truncated and saturating at 2047. -/
def powerField (w : Nat) : Nat × Nat := (11, min 2047 (w / 4000))

/-- The head of the look-ahead queue: its context and due minute, both 0 when the queue is empty. -/
def State.headFields (s : State) : List (Nat × Nat) :=
  match s.queue with
  | [] => [(4, 0), (14, 0)]
  | e :: _ => [(4, e.context), (14, e.due)]

/-- The handover fields: cause 3 and zeros while no handover is in progress (R86). -/
def State.handoverFields (s : State) : List (Nat × Nat) :=
  match s.programme with
  | .handover h => [(2, h.cause.code), (13, h.elapsed), (6, h.target), (6, h.count)]
  | _ => [(2, 3), (13, 0), (6, 0), (6, 0)]

/-- The window's t and W_len, 0 when no window is open. -/
def State.windowFields (s : State) : List (Nat × Nat) :=
  match s.alloc.window with
  | some w => [(12, s.windowTime w), (12, w.len)]
  | none => [(12, 0), (12, 0)]

/-- The fields of the site part, in table order, with composition count `n`. The shed state and the meter state are those
read at the latest round, as the allocation record stands at the composition (R145), and 0 while it is empty (R146); that
R19's "the shed state" of the site part is this one is DEDUCED (log 25). -/
def State.siteFields (s : State) (n : Nat) : List (Nat × Nat) :=
  [(32, n), (14, s.clock.minute), (6, s.clock.second),
   bit s.clock.valid, bit s.running, bit s.fire, bit s.alloc.record.shed, bit s.outdoorSubstituted, bit s.alloc.record.meterLost,
   bit (s.alloc.window.any Window.overRaised), bit s.store.saving.isSome,
   (2, partyCode s.authority.holder), (2, partyCode (s.authority.claim.map Claim.claimant)),
   bit s.link.sup.alive, bit s.link.pan.alive, bit s.link.notices,
   signedField 11 s.outdoor, readingField s.daylight,
   contextField s.programme.currentNo, contextField s.programme.outgoingNo, contextField s.programme.incomingNo,
   (3, s.queue.length)] ++ s.headFields ++ s.handoverFields ++
  [bit s.alloc.record.short1, bit s.alloc.record.short2, bit s.alloc.record.short3] ++ s.windowFields ++
  [powerField s.alloc.record.target, powerField s.alloc.record.used, powerField s.alloc.record.allow,
   powerField s.alloc.record.measured, powerField s.alloc.record.cavg, powerField s.alloc.record.uEst,
   powerField s.alloc.record.budget, powerField s.alloc.record.tier0,
   powerField s.alloc.last.used, powerField s.alloc.last.target, (12, s.alloc.last.len), (12, s.alloc.last.ran),
   bit s.alloc.last.exceeded, bit s.alloc.last.short]

/-- The code of a programme source (12, Zone entry). -/
def Source.code : Source → Nat
  | .idle => 0
  | .current _ => 1
  | .incoming _ => 2

/-- The owner of zone `z`'s lock of a function, as a party code, 0 for EMPTY. -/
def State.lockOwner (s : State) (z : Nat) (f : ZoneFunction) : Nat :=
  partyCode ((s.lock (lockNumber z f)).map Lock.owner)

/-- The value of zone `z`'s lock of a function; 0 for EMPTY, of which the manual states no value (DESIGN CHOICE, log 48). -/
def State.lockValue (s : State) (z : Nat) (f : ZoneFunction) : Nat := (s.override z f).getD 0

/-- The fields of zone `z`'s entry, in table order. -/
def State.zoneFields (s : State) (z : Nat) : List (Nat × Nat) :=
  let r := s.zone z
  [bit (s.enabled z), (2, r.occ.state.code), (2, r.prog.source.code), bit r.prog.preheat.isSome,
   bit r.marks.light, bit r.marks.heat, bit r.marks.vent, bit r.prog.heat, bit r.heat.cold, bit r.heat.frost,
   bit r.vent.alarm, bit r.vent.purgeEnd.isSome, bit (s.contactorDemand z), (6, s.doorsOpen z),
   readingField (s.zoneTemp z), readingField (s.zoneAir z),
   (7, r.light.target), (7, r.light.untrim), (7, r.light.granted), (7, r.light.present), (16, r.light.grantedTrim),
   signedField 16 r.heat.setpoint, (2, r.heat.stage), (2, r.heat.debtStage), (2, r.heat.units),
   (2, s.unitsGranted z), (12, r.heat.debt),
   (2, r.prog.ventMin), (2, r.vent.air), (2, r.vent.nonAir), (2, r.vent.stages), (2, s.grantedFanStage z),
   (2, s.lockOwner z .light), (2, s.lockOwner z .heat), (2, s.lockOwner z .vent),
   (7, s.lockValue z .light), (2, s.lockValue z .heat), (2, s.lockValue z .vent)]

/-- The fields of door `d`'s entry: its state, opens saturating at 16383, and open seconds. -/
def State.doorFields (s : State) (d : Nat) : List (Nat × Nat) :=
  [(2, (s.door d).state.code), (14, min 16383 (s.door d).opens), (16, (s.door d).openSeconds)]

/-- The 552 bytes of a snapshot with composition count `n` (R178). -/
def State.snapshotBytes (s : State) (n : Nat) : List Byte :=
  packPart 40 (s.siteFields n) ++ ((List.range 16).flatMap fun z => packPart 20 (s.zoneFields z)) ++
  (List.range 48).flatMap fun d => packPart 4 (s.doorFields d)

/-! ### The composition (R178) -/

/-- A composition: the next count, every block's state written into FILL, and FILL and NEWEST exchange roles. The next
composition falls P seconds on, with P as it now stands. -/
def State.compose (s : State) : State :=
  let n := s.snaps.count + 1
  { s with snaps := { s.snaps with
      fill := s.snaps.newest
      newest := some { count := n, bytes := s.snapshotBytes n }
      count := n
      nextAt := s.now + 100 * s.site.period } }

/-- SNAPSHOT_COMPOSITION (R178). -/
def execSnapshotComposition (s : State) : Host.Outcome State Fault Refusal := .next s.compose

/-! ### SNAPSHOT (R179) -/

/-- A port's HELD buffer. -/
def Snapshots.held (b : Snapshots) : Port → Option Snapshot
  | .supervisor => b.heldSup
  | .panel => b.heldPan

/-- NEWEST and the port's HELD buffer exchange roles (R179). -/
def Snapshots.exchange (b : Snapshots) (p : Port) : Snapshots :=
  match p with
  | .supervisor => { b with newest := b.heldSup, heldSup := b.newest }
  | .panel => { b with newest := b.heldPan, heldPan := b.newest }

/-- NEWEST holds a higher count than the port's HELD buffer, or the HELD buffer is empty and NEWEST is not (R179). -/
def Snapshots.newer (b : Snapshots) (p : Port) : Bool :=
  match b.newest, b.held p with
  | some n, some h => h.count < n.count
  | some _, none => true
  | none, _ => false

/-- Page `k` of a snapshot: bytes 180 × k to the lesser of 180 × k + 179 and 551 (R179). -/
def Snapshot.page (x : Snapshot) (k : Nat) : List Byte := (x.bytes.drop (180 * k)).take 180

/-- The OK reply from the port's HELD buffer, NO_DATA where it is empty (R179). -/
def State.pageReply (p : Port) (k : Nat) (new : Bool) (s : State) : State × Reply :=
  match s.snaps.held p with
  | none => answer .noData s
  | some x => taken (u8 k ++ u32 x.count ++ yesNo new ++ x.page k) s

/-- SNAPSHOT's checks after its length, and its effect (R179). -/
def State.snapshotBody (p : Port) (b : List Byte) (s : State) : State × Reply :=
  let k := rd8 b 0
  if 3 < k then answer .badReference s
  else if k = 0 ∧ s.snaps.newer p = true then
    ({ s with snaps := s.snaps.exchange p } : State).pageReply p 0 true
  else s.pageReply p k false

/-- SNAPSHOT (R179). -/
def execSnapshot (port : Port) (payload : List Byte) (s : State) : Host.Outcome State Fault Refusal :=
  .next (s.serve port .snapshot payload (withLength 1 payload (State.snapshotBody port payload)))

end Sys2Proof.Machine
end

