-- ==== Sys2Proof/Machine/UnitRequests.lean ====
section
/-! DEFINITION. The requests that reach one block directly: LINES READ, LINES CLEAR, LINES MASK and FIRE RESET (01),
CALIBRATE (02), PURGE (08), OUTPUT SET and OUTPUT TEST (10). -/

namespace Sys2Proof.Machine

/-! ### Lines (R6 to R8) -/

/-- The line set of pending flags. -/
def State.pendingSet (s : State) : List Byte := lineSet fun l => (s.line l).pending

/-- The five line sets of LINES READ, in the order of R6. -/
def State.lineSets (s : State) : List Byte :=
  lineSet (fun l => (s.line l).raw) ++ lineSet (fun l => (s.line l).active) ++ s.pendingSet ++
  lineSet (fun l => (s.line l).inForce.masked) ++ lineSet (fun l => (s.line l).inForce.enable)

/-- LINES READ (R6). -/
def execLinesRead (port : Port) (payload : List Byte) (s : State) : Host.Outcome State Fault Refusal :=
  .next (s.serve port .linesRead payload (withLength 0 payload fun t => taken t.lineSets t))

/-- Line `l`'s pending flag cleared where it is set; a LEVEL trigger that is present sets it again at once (R4, R7). -/
def State.clearPending (s : State) (l : Nat) : State :=
  if (s.line l).pending = true then
    let s1 := s.updLine l fun r => { r with pending := false }
    if s1.levelPresent l = true then s1.setPending l else s1
  else s

/-- LINES CLEAR's effect and its reply, the pending flags after the clear (R7). -/
def State.linesClearBody (b : List Byte) (s : State) : State × Reply :=
  let s1 := s.forEach 64 fun l t => if inLineSet b l then t.clearPending l else t
  taken s1.pendingSet s1

/-- LINES CLEAR (R7). -/
def execLinesClear (port : Port) (payload : List Byte) (s : State) : Host.Outcome State Fault Refusal :=
  .next (s.serve port .linesClear payload (withLength 8 payload (State.linesClearBody payload)))

/-- The report mask of every line's configuration replaced (R8). -/
def maskLines (b : List Byte) (cs : List LineConfig) : List LineConfig :=
  cs.zipIdx.map fun ci => { ci.1 with masked := inLineSet b ci.2 }

/-- The report mask in force replaced with it, since R8's mask applies from the next setting of the flag. -/
def maskRecords (b : List Byte) (rs : List LineRec) : List LineRec :=
  rs.zipIdx.map fun ri => { ri.1 with inForce := { ri.1.inForce with masked := inLineSet b ri.2 } }

/-- LINES MASK's effect (R8). -/
def State.maskAll (s : State) (b : List Byte) : State :=
  let s1 := s.updSettings fun k => { k with lines := maskLines b k.lines }
  { s1 with lines := maskRecords b s1.lines }

/-- LINES MASK (R8). -/
def execLinesMask (port : Port) (payload : List Byte) (s : State) : Host.Outcome State Fault Refusal :=
  .next (s.serve port .linesMask payload (withLength 8 payload fun t => taken [] (t.maskAll payload)))

/-! ### FIRE RESET (R17) -/

/-- FIRE RESET by the state of the FIRE lines and the latch (R17). -/
def State.fireResetBody (s : State) : State × Reply :=
  if s.fireLineActive = true then answer .fireActive s
  else if s.fire = false then taken [] s
  else taken [] (s.clearFire 0)

/-- FIRE RESET (R17). -/
def execFireReset (port : Port) (payload : List Byte) (s : State) : Host.Outcome State Fault Refusal :=
  .next (s.serve port .fireReset payload (withLength 0 payload State.fireResetBody))

/-! ### CALIBRATE (R28) -/

/-- Channel `c`'s points replaced and its history emptied (R28). A restart that waits for the channel's next sample still
waits (R20; DEDUCED, log 18). -/
def State.recalibrate (s : State) (c codeLo : Nat) (valueLo : Int) (codeHi : Nat) (valueHi : Int) : State :=
  (s.updSettings fun k =>
    { k with channels := k.channels.modify c fun r =>
        { r with codeLo := codeLo, valueLo := valueLo, codeHi := codeHi, valueHi := valueHi } }).updChan c fun r =>
    { r with history := [] }

/-- CALIBRATE's checks in the order of R28, and its effect. -/
def State.calibrateBody (b : List Byte) (s : State) : State × Reply :=
  let c := rd8 b 0
  let lo := rd16 b 1
  let hi := rd16 b 5
  if 23 < c then answer .badReference s
  else if 4095 < lo ∨ 4095 < hi then answer .badReference s
  else if hi ≤ lo then answer .badReference s
  else taken [] (s.recalibrate c lo (rdS16 b 3) hi (rdS16 b 7))

/-- CALIBRATE (R28). -/
def execCalibrate (port : Port) (payload : List Byte) (s : State) : Host.Outcome State Fault Refusal :=
  .next (s.serve port .calibrate payload (withLength 9 payload (State.calibrateBody payload)))

/-! ### PURGE (R123) -/

/-- PURGE's checks in the order of R123, and its purge request. -/
def State.purgeBody (b : List Byte) (s : State) : State × Reply :=
  let z := rd8 b 0
  if 15 < z ∨ s.enabled z = false then answer .badReference s
  else if s.running = false then answer .notRunning s
  else taken [] (s.purgeRequest z (s.purgeMinutes z))

/-- PURGE (R123). -/
def execPurge (port : Port) (payload : List Byte) (s : State) : Host.Outcome State Fault Refusal :=
  .next (s.serve port .purge payload (withLength 1 payload (State.purgeBody payload)))

/-! ### OUTPUT SET and OUTPUT TEST (R156, R157) -/

/-- The functions that take a commanded value: BEACON and SPARE (R156). -/
def OutputFunction.takesCommand : OutputFunction → Bool
  | .beacon => true
  | .spare => true
  | .heater => false
  | .curtain => false
  | .fan => false
  | .lightContactor => false

/-- OUTPUT SET's checks in the order of R156, and its effect. -/
def State.outputSetBody (b : List Byte) (s : State) : State × Reply :=
  let o := rd8 b 0
  if 39 < o then answer .badReference s
  else if (s.outCfg o).function.takesCommand = false then answer .badReference s
  else if 1 < rd8 b 1 then answer .badReference s
  else taken [] (s.updOut o fun r => { r with commanded := rd8 b 1 = 1 })

/-- OUTPUT SET (R156). -/
def execOutputSet (port : Port) (payload : List Byte) (s : State) : Host.Outcome State Fault Refusal :=
  .next (s.serve port .outputSet payload (withLength 2 payload (State.outputSetBody payload)))

/-- A test of `secs` seconds taken (R157): its end is set anew, and a load output's hold is cleared. -/
def OutputRec.beginTest (now secs : Nat) (load : Bool) (r : OutputRec) : OutputRec :=
  { r with testEnd := some (now + 100 * secs), hold := if load then .none else r.hold }

/-- OUTPUT TEST's checks in the order of R157, and its effect. -/
def State.outputTestBody (b : List Byte) (s : State) : State × Reply :=
  let o := rd8 b 0
  let d := rd8 b 1
  if 39 < o then answer .badReference s
  else if s.running = true then answer .notStopped s
  else if s.fire = true then answer .fireActive s
  else (s.updOut o (OutputRec.beginTest s.now (clampN 1 60 d) (s.isLoad o)),
    { status := if clampN 1 60 d = d then .ok else .clamped, data := [] })

/-- OUTPUT TEST (R157). -/
def execOutputTest (port : Port) (payload : List Byte) (s : State) : Host.Outcome State Fault Refusal :=
  .next (s.serve port .outputTest payload (withLength 2 payload (State.outputTestBody payload)))

end Sys2Proof.Machine
end

