-- ==== Sys2Proof/Machine/Dispatch.lean ====
section
/-! DEFINITION. The commands' meanings, one arm for each row of the table. -/

namespace Sys2Proof.Machine

def exec (i : Instr) (s : State) : Host.Outcome State Fault Refusal :=
  match i with
  | .ident port payload => Sys2Proof.Machine.execIdent port payload s
  | .status port payload => Sys2Proof.Machine.execStatus port payload s
  | .configRead port payload => Sys2Proof.Machine.execConfigRead port payload s
  | .configWriteSite port payload => Sys2Proof.Machine.execConfigWriteSite port payload s
  | .configWriteZone port payload => Sys2Proof.Machine.execConfigWriteZone port payload s
  | .configWriteDoor port payload => Sys2Proof.Machine.execConfigWriteDoor port payload s
  | .configWriteLine port payload => Sys2Proof.Machine.execConfigWriteLine port payload s
  | .configWriteChannel port payload => Sys2Proof.Machine.execConfigWriteChannel port payload s
  | .configWriteOutput port payload => Sys2Proof.Machine.execConfigWriteOutput port payload s
  | .contextRead port payload => Sys2Proof.Machine.execContextRead port payload s
  | .contextWrite port payload => Sys2Proof.Machine.execContextWrite port payload s
  | .contextErase port payload => Sys2Proof.Machine.execContextErase port payload s
  | .contextCopy port payload => Sys2Proof.Machine.execContextCopy port payload s
  | .calendarRead port payload => Sys2Proof.Machine.execCalendarRead port payload s
  | .calendarWrite port payload => Sys2Proof.Machine.execCalendarWrite port payload s
  | .forceShift port payload => Sys2Proof.Machine.execForceShift port payload s
  | .setClock port payload => Sys2Proof.Machine.execSetClock port payload s
  | .start port payload => Sys2Proof.Machine.execStart port payload s
  | .stop port payload => Sys2Proof.Machine.execStop port payload s
  | .restart port payload levels codes => Sys2Proof.Machine.execRestart port payload levels codes s
  | .save port payload => Sys2Proof.Machine.execSave port payload s
  | .claim port payload => Sys2Proof.Machine.execClaim port payload s
  | .yield port payload => Sys2Proof.Machine.execYield port payload s
  | .decline port payload => Sys2Proof.Machine.execDecline port payload s
  | .overrideSet port payload => Sys2Proof.Machine.execOverrideSet port payload s
  | .overrideRelease port payload => Sys2Proof.Machine.execOverrideRelease port payload s
  | .overrideBreak port payload => Sys2Proof.Machine.execOverrideBreak port payload s
  | .purge port payload => Sys2Proof.Machine.execPurge port payload s
  | .linesRead port payload => Sys2Proof.Machine.execLinesRead port payload s
  | .linesClear port payload => Sys2Proof.Machine.execLinesClear port payload s
  | .linesMask port payload => Sys2Proof.Machine.execLinesMask port payload s
  | .events port payload => Sys2Proof.Machine.execEvents port payload s
  | .snapshot port payload => Sys2Proof.Machine.execSnapshot port payload s
  | .notices port payload => Sys2Proof.Machine.execNotices port payload s
  | .fireReset port payload => Sys2Proof.Machine.execFireReset port payload s
  | .outputSet port payload => Sys2Proof.Machine.execOutputSet port payload s
  | .outputTest port payload => Sys2Proof.Machine.execOutputTest port payload s
  | .calibrate port payload => Sys2Proof.Machine.execCalibrate port payload s
  | .unknownKind port kind payload => Sys2Proof.Machine.execUnknownKind port kind payload s
  | .frameDiscard port cause => Sys2Proof.Machine.execFrameDiscard port cause s
  | .frameByteTimeout port => Sys2Proof.Machine.execFrameByteTimeout port s
  | .frameNotAddressed => Sys2Proof.Machine.execFrameNotAddressed s
  | .baudSearchDwell port => Sys2Proof.Machine.execBaudSearchDwell port s
  | .silenceTimeExpiry port => Sys2Proof.Machine.execSilenceTimeExpiry port s
  | .notice => Sys2Proof.Machine.execNotice s
  | .powerOn levels codes => Sys2Proof.Machine.execPowerOn levels codes s
  | .saveWriteComplete => Sys2Proof.Machine.execSaveWriteComplete s
  | .snapshotComposition => Sys2Proof.Machine.execSnapshotComposition s
  | .debouncedChange line => Sys2Proof.Machine.execDebouncedChange line s
  | .heldOpenCheck => Sys2Proof.Machine.execHeldOpenCheck s
  | .channelSample codes => Sys2Proof.Machine.execChannelSample codes s
  | .channelHoldExpiry channel => Sys2Proof.Machine.execChannelHoldExpiry channel s
  | .zoneEvaluation => Sys2Proof.Machine.execZoneEvaluation s
  | .occupancyHoldExpiry zone => Sys2Proof.Machine.execOccupancyHoldExpiry zone s
  | .graceExpiry zone => Sys2Proof.Machine.execGraceExpiry zone s
  | .downDelayExpiry zone => Sys2Proof.Machine.execDownDelayExpiry zone s
  | .purgeEnd zone => Sys2Proof.Machine.execPurgeEnd zone s
  | .handoverRampEnd => Sys2Proof.Machine.execHandoverRampEnd s
  | .lateTest => Sys2Proof.Machine.execLateTest s
  | .lookAheadRead => Sys2Proof.Machine.execLookAheadRead s
  | .dueEvent => Sys2Proof.Machine.execDueEvent s
  | .purgeLeadReached slot => Sys2Proof.Machine.execPurgeLeadReached slot s
  | .preheatLeadReached slot => Sys2Proof.Machine.execPreheatLeadReached slot s
  | .allocationRound => Sys2Proof.Machine.execAllocationRound s
  | .meterSilenceExpiry => Sys2Proof.Machine.execMeterSilenceExpiry s
  | .windowEnd => Sys2Proof.Machine.execWindowEnd s
  | .controlledEnergySecond => Sys2Proof.Machine.execControlledEnergySecond s
  | .minOnEnd output => Sys2Proof.Machine.execMinOnEnd output s
  | .minOffEnd output => Sys2Proof.Machine.execMinOffEnd output s
  | .outputTestEnd output => Sys2Proof.Machine.execOutputTestEnd output s
  | .claimTimeout => Sys2Proof.Machine.execClaimTimeout s
  | .overrideExpiry lock => Sys2Proof.Machine.execOverrideExpiry lock s
  | .lineSample levels => Sys2Proof.Machine.execLineSample levels s
  | .beaconPatternHalf pattern => Sys2Proof.Machine.execBeaconPatternHalf pattern s
  | .sendComplete port => Sys2Proof.Machine.execSendComplete port s

end Sys2Proof.Machine
end

