-- ==== Sys2Proof/Machine/Tick.lean ====
section
/-! DEFINITION. The passing of time: what the part's own timers do when no command waits. A tick is 10 ms of the
elapsed-time base (log 1); the timed rows that fall due with it are put in the queue in the order given here (log 2),
and the steps that follow take them. -/

namespace Sys2Proof.Machine

/-- The elapsed-time base stands at a whole second. -/
def State.atSecond (s : State) : Bool := s.now % 100 == 0

/-- A command where its condition holds. -/
def dueIf (b : Bool) (c : Instr) : List Instr := if b then [c] else []

/-- The commands of the items below `n` that satisfy `p`, in ascending order. -/
def dueEach (n : Nat) (p : Nat → Bool) (c : Fin n → Instr) : List Instr :=
  (List.finRange n).flatMap fun (i : Fin n) => dueIf (p i) (c i)

/-- What a site second that has just been counted brings (R62 to R64, R131): the window's end, the due event, the
look-ahead read, and the leads the entries have reached. -/
def State.siteSecondDue (s : State) : List Instr :=
  dueIf s.windowOver .windowEnd ++
  (if s.calendarRuns = true then
    dueIf (s.queue.head?.any s.dueReached) .dueEvent ++ dueIf s.atSlotBoundary .lookAheadRead ++
    s.queue.flatMap (fun e =>
      if h : e.slot < 672 then [Instr.purgeLeadReached ⟨e.slot, h⟩, Instr.preheatLeadReached ⟨e.slot, h⟩] else [])
  else [])

/-- What a whole second brings before the zone evaluation: the door check and the channel sample (R13, R22). -/
def State.secondSamples (s : State) : List Instr := [.heldOpenCheck, .channelSample s.pins.codes]

/-- What a whole second brings after the zone evaluation: the late test, the ends of holds, tests, claims, locks and
silences, and the end of the baud search's dwells (R79, R150, R157, R162, R168, R172). -/
def State.secondTests (s : State) : List Instr :=
  [.lateTest] ++ dueEach 40 s.minOnOver .minOnEnd ++ dueEach 40 s.minOffOver .minOffEnd ++
  dueIf s.claimOver .claimTimeout ++ dueEach 48 s.lockExpired .overrideExpiry ++
  dueIf (s.silenceDue .supervisor) (.silenceTimeExpiry .supervisor) ++
  dueIf (s.silenceDue .panel) (.silenceTimeExpiry .panel)

/-- The round timer has run (R133). -/
def State.roundDue (s : State) : Bool := s.running && s.alloc.nextRound.any fun t => t ≤ s.now

/-- The commands due at a tick, `counted` telling that it counted a site second. A test ends at the tick that reaches its
end, a whole number of seconds after its acceptance (R157; DEDUCED, log 45). -/
def State.dueNow (s : State) (counted : Bool) : List Instr :=
  (if s.atSecond = true then s.secondSamples else []) ++
  (if counted = true then s.siteSecondDue else []) ++
  (if s.atSecond = true then dueIf s.running .controlledEnergySecond else []) ++
  dueIf (!counted && s.windowOver) .windowEnd ++
  dueIf s.roundDue .allocationRound ++
  (if s.atSecond = true then dueIf s.running .zoneEvaluation ++ s.secondTests else []) ++
  dueEach 40 s.testOver .outputTestEnd ++
  dueIf (s.dwellOver .supervisor) (.baudSearchDwell .supervisor) ++
  dueIf (s.dwellOver .panel) (.baudSearchDwell .panel) ++
  dueIf (s.snaps.nextAt ≤ s.now) .snapshotComposition ++
  [.lineSample s.pins.levels] ++
  dueIf (s.now % 25 == 0) (.beaconPatternHalf .fast) ++
  dueIf (s.now % 100 == 0) (.beaconPatternHalf .slow) ++
  dueIf (!s.link.pan.sending && !s.link.pan.tx.isEmpty) .notice

/-- 10 ms pass: the elapsed-time base and the site clock run (R49), the handover timer advances at a whole second (R73),
and the commands that fall due join the queue. R73 leaves open whether an evaluation or the advance of the same second is
taken first: the advance is (DESIGN CHOICE, log 42). -/
def State.tick (s : State) : State :=
  let clock := s.clock.run s.site.clockTrim
  let counted := s.clock.secondLen ≤ s.clock.phase + 10000
  let s1 : State := { s with now := s.now + 1, clock := clock }
  let s2 : State := if s1.atSecond = true then { s1 with programme := s1.programme.advance } else s1
  { s2 with pending := s2.pending ++ s2.dueNow counted }

end Sys2Proof.Machine
end

