-- ==== Sys2Proof/Machine/Step.lean ====
section
/-! DEFINITION. One step of the part: the command at the front of the queue is taken with the queue's rest; on an empty
queue 10 ms pass (log 1). -/

namespace Sys2Proof.Machine

/-- One step. -/
def step (s : State) : Host.Outcome State Fault Refusal :=
  match s.pending with
  | [] => .next s.tick
  | c :: rest => exec c { s with pending := rest }

/-- `s` with the command that a table word spells put at the front of its queue; no row of the table gives bits, so no
word spells one. -/
def State.withFetchWord (s : State) (nbits w : Nat) : State :=
  match decodeTableWord nbits w with
  | some c => { s with pending := c :: s.pending }
  | none => s

/-- A run of bytes arrives on port `p` without a gap of 20 bit-times: the commands it spells join the queue in their
order (R173), for the station address, the pins and the codes as they stand. -/
def State.receive (s : State) (p : Port) (bytes : List Byte) : State :=
  { s with pending := s.pending ++ decodeFrames p s.site.station s.pins.levels s.pins.codes bytes }

end Sys2Proof.Machine
end

