-- ==== Sys2Proof/Safety.lean ====
section
/-! DEFINITION. What the statements speak of: the sizes of the part's records, the laws of the device the manual names
(R54, R55, R61, R107, R151, R152, R159, R169, R176), and the words in which the effect of a request is told. -/

namespace Sys2Proof.Machine

/-! ### The sizes of the records (00, Key figures) -/

/-- A settings record has one record for every zone, door, line, channel, output, slot and context. -/
def Settings.Sized (k : Settings) : Prop :=
  k.zones.length = 16 ∧ k.doors.length = 48 ∧ k.lines.length = 64 ∧ k.channels.length = 24 ∧ k.outputs.length = 40 ∧
  k.calendar.length = 672 ∧ k.contexts.length = 16

/-- The part has its 64 lines, 48 doors, 24 channels, 16 zones, 40 outputs and 48 locks, in its working settings, in the
stored image and in the image being written. -/
def State.Sized (s : State) : Prop :=
  s.lines.length = 64 ∧ s.doors.length = 48 ∧ s.activity.length = 16 ∧ s.channels.length = 24 ∧ s.zones.length = 16 ∧
  s.outputs.length = 40 ∧ s.locks.length = 48 ∧ s.settings.Sized ∧ (∀ k ∈ s.store.image, k.Sized) ∧
  (∀ k ∈ s.store.saving, k.Sized)

/-! ### Laws of the device -/

/-- No context holds two entries for the same zone, and its entries stand in ascending zone order (R54). -/
def Context.Ordered (c : Context) : Prop := (c.entries.map ZoneEntry.zone).Pairwise (· < ·)

/-- The pool law (R54): the entries of all non-EMPTY contexts number at most 192, and each context is ordered. -/
def Settings.PoolLaw (k : Settings) : Prop :=
  poolUsed k.contexts ≤ 192 ∧ ∀ c ∈ k.contexts, ∀ r ∈ c, r.Ordered

/-- The pool law in the working settings and in both images. -/
def State.PoolLaw (s : State) : Prop :=
  s.settings.PoolLaw ∧ (∀ k ∈ s.store.image, k.PoolLaw) ∧ (∀ k ∈ s.store.saving, k.PoolLaw)

/-- The debt law (R107): every zone's door debt stays within 0–3600. -/
def State.DebtLaw (s : State) : Prop := ∀ r ∈ s.zones, r.heat.debt ≤ 3600

/-- The queue law (R176): each event queue holds at most 24 records, and each lost count is at most 255. -/
def State.QueueLaw (s : State) : Prop :=
  ∀ p : Port, (s.port p).events.length ≤ 24 ∧ (s.port p).lost ≤ 255

/-- The claim law (R159): a pending claim exists only while a party holds, and its claimant is the other party. -/
def State.ClaimLaw (s : State) : Prop :=
  ∀ c ∈ s.authority.claim, s.authority.holder = some (other c.claimant)

/-- The lock law (R169): every FULL override lock is owned by a port that is ALIVE. -/
def State.LockLaw (s : State) : Prop := ∀ k, some k ∈ s.locks → (s.port k.owner).alive = true

/-- A context number names a non-EMPTY context. -/
def State.stored (s : State) (c : Nat) : Prop := (s.context c).isSome = true

/-- The programme law (R55): while RUNNING with no handover one context is CURRENT, during a handover one is OUTGOING and
another INCOMING, and while STOPPED none is active; every active context is non-EMPTY. -/
def State.ProgrammeLaw (s : State) : Prop :=
  match s.programme with
  | .none => s.runMode = .stopped
  | .current c => s.runMode = .running ∧ s.stored c
  | .handover h => s.runMode = .running ∧ h.outgoing ≠ h.incoming ∧ s.stored h.outgoing ∧ s.stored h.incoming

/-- The barrier law (R46, R72, R74): while a handover is in progress its target is three participants for each enabled
zone, its count is the arrivals marked in them, and fewer than the target have arrived. -/
def State.BarrierLaw (s : State) : Prop :=
  ∀ h, s.programme = .handover h →
    let zones := (List.range 16).filter s.enabled
    h.target = 3 * zones.length ∧
    h.count = (zones.filter fun z => (s.zone z).marks.light).length + (zones.filter fun z => (s.zone z).marks.heat).length +
      (zones.filter fun z => (s.zone z).marks.vent).length ∧
    h.count < h.target

/-- The look-ahead law (R61): every context in the look-ahead queue is non-EMPTY, no two entries hold the same slot, there
are no more of them than H, the queue is empty while STOPPED, and while RUNNING the fallback context is non-EMPTY. -/
def State.LookAheadLaw (s : State) : Prop :=
  (∀ e ∈ s.queue, s.stored e.context ∧ e.slot < 672) ∧ (s.queue.map QueueEntry.slot).Nodup ∧
  s.queue.length ≤ s.site.lead ∧ (s.runMode = .stopped → s.queue = []) ∧ (s.runMode = .running → s.stored s.site.fallback)

/-- The clock stands at a second of a minute of the week (R49), and the calendar was last read at a slot of it. -/
def State.ClockLaw (s : State) : Prop := s.clock.minute < 10080 ∧ s.clock.second < 60 ∧ s.readAt < 672

/-- The structural site values lie in their ranges: H in 1–4 (R61), W in 300–3600 s in steps of 60, P one of its five
values (R129). -/
def SiteConfig.InRange (c : SiteConfig) : Prop :=
  1 ≤ c.lead ∧ c.lead ≤ 4 ∧ 300 ≤ c.windowLen ∧ c.windowLen ≤ 3600 ∧ c.windowLen % 60 = 0 ∧ c.period ∈ [5, 10, 15, 20, 30]

/-- The range law: those values lie in their ranges in the working settings and in both images. -/
def State.RangeLaw (s : State) : Prop :=
  s.site.InRange ∧ (∀ k ∈ s.store.image, k.site.InRange) ∧ (∀ k ∈ s.store.saving, k.site.InRange)

/-- Output `o` is off at its pin and cannot be switched on by a grant: its Drive is OFF, no test runs on it and a forcing
holds it. -/
def State.HeldOff (s : State) (o : Nat) : Prop :=
  (s.out o).drive = false ∧ (s.out o).testEnd = none ∧ (s.out o).forced ≠ .none

/-- The fire law (R151): while fire mode is set, every HEATER and CURTAIN output is off. -/
def State.FireLaw (s : State) : Prop :=
  s.fire = true → ∀ o < 40, ((s.outCfg o).function = .heater ∨ (s.outCfg o).function = .curtain) → s.HeldOff o

/-- The law of STOPPED (R146, R152): while the part is STOPPED every output's own Drive is OFF, none is requested or
granted, and every load output is forced STOP. -/
def State.StoppedLaw (s : State) : Prop :=
  s.runMode = .stopped → ∀ o < 40, (s.out o).drive = false ∧ (s.out o).request = none ∧ (s.out o).grant = .none ∧
    (s.isLoad o = true → (s.out o).forced = .stop)

/-- A controller requests output `o`: a unit or stage that an enabled zone counts, so that none above a gap is requested
(R104, R119), or the curtain of a door of an enabled zone (R112). -/
def State.served (s : State) (o : Nat) : Bool :=
  match (s.outCfg o).function, (s.outCfg o).ref with
  | .heater, .zone z u => s.enabled z && 1 ≤ u && u ≤ s.heaterUnits z
  | .fan, .zone z u => s.enabled z && 1 ≤ u && u ≤ s.fanStages z
  | .curtain, .door d => s.enabled (s.doorCfg d).zone
  | _, _ => false

/-- The drive law (R104, R119, R148, R149): an output that no controller requests, one above a gap or one that is no load
among them, is never requested, granted or driven; and MIN_ON runs only on an output that is ON. -/
def State.DriveLaw (s : State) : Prop :=
  (∀ o < 40, s.served o = false → (s.out o).drive = false ∧ (s.out o).request = none ∧ (s.out o).grant = .none) ∧
  ∀ o < 40, (s.out o).hold = .minOn → (s.out o).drive = true

/-- The load law (R149): the own Drive of a HEATER, CURTAIN or FAN output is ON only while its load is granted; a grant
that MIN_ON keeps standing is one (R139, R144). -/
def State.GrantLaw (s : State) : Prop :=
  ∀ o < 40, s.isLoad o = true → (s.out o).drive = true → (s.out o).grant ≠ .none

/-- The air law (R119, R121, R122, R125): no air stage exceeds the zone's fan stage count, none stands while STOPPED, and
while RUNNING and outside fire mode every stage of an enabled zone up to its air stage after door credit is requested at
tier 0 and granted. -/
def State.AirLaw (s : State) : Prop :=
  (∀ z < 16, (s.zone z).vent.air ≤ s.fanStages z ∧ (s.zone z).vent.credited ≤ s.fanStages z ∧
    (s.runMode = .stopped → (s.zone z).vent.air = 0 ∧ (s.zone z).vent.credited = 0)) ∧
  (s.runMode = .running → s.fire = false → ∀ z < 16, s.enabled z = true → ∀ o < 40, ∀ u,
    (s.outCfg o).function = .fan → (s.outCfg o).ref = .zone z u → 1 ≤ u → u ≤ (s.zone z).vent.credited →
    (s.out o).request = some 0 ∧ (s.out o).grant ≠ .none)

/-- Every zone's egress floor lies in its range (R34, R87). -/
def Settings.FloorsInRange (k : Settings) : Prop := ∀ c ∈ k.zones, c.floor ≤ 50

/-- The floor law (R95): while RUNNING, an enabled zone that is OCCUPIED or GRACE has a present level at least its egress
floor, and one without an occupancy source is OCCUPIED (R41); egress floors lie in their range in the working settings
and in both images. -/
def State.FloorLaw (s : State) : Prop :=
  s.settings.FloorsInRange ∧ (∀ k ∈ s.store.image, k.FloorsInRange) ∧ (∀ k ∈ s.store.saving, k.FloorsInRange) ∧
  (s.runMode = .running → ∀ z < 16, s.enabled z = true →
    ((s.zone z).occ.state ≠ .vacant → (s.zoneCfg z).floor ≤ (s.zone z).light.present) ∧
    (s.hasOccupancySource z = false → (s.zone z).occ.state = .occupied))

/-! ### What a request does -/

/-- A request of port `p` is taken: its payload fits a frame and the part is not sending on the port (R173). -/
def State.takes (s : State) (p : Port) (payload : List Byte) : Prop :=
  (s.port p).sending = false ∧ payload.length ≤ 200

/-- The state as a valid frame on port `p` leaves it, before the request is decided (R172): the port ALIVE and its
last-frame time stamped. -/
def State.framed (s : State) (p : Port) : State := s.updPort p fun r => { r with alive := true, lastFrame := some s.now }

/-- A request that found the state `s` is answered on port `p`: `t` is what its effects left, and the reply follows the
frames that were waiting and comes before the notices of the events the effects raised (R173, R177). -/
def State.answered (s : State) (p : Port) (kind : Nat) (st : Status) (data : List Byte) (t : State) : State :=
  t.updPort p fun r =>
    { r with
        tx := r.tx.take (s.port p).tx.length ++
          { address := s.site.station, kind := kind % 128 + 128, payload := u8 st.code ++ data } ::
            r.tx.drop (s.port p).tx.length
        sending := true }

/-- A request refused with a status alone (R174): no state is changed but the port's by the frame and its reply. -/
def State.refused (s : State) (p : Port) (k : RequestKind) (st : Status) : State :=
  s.answered p k.code st [] (s.framed p)

/-- The outcome of a request that is answered: always a next state. -/
def State.replies (s : State) (p : Port) (k : RequestKind) (st : Status) (data : List Byte) (t : State) :
    Host.Outcome State Fault Refusal := .next (s.answered p k.code st data t)

/-- Events queued to both ports one after another (R176). -/
def State.raises (s : State) (es : List (EventKind × Nat × Nat)) : State :=
  es.foldl (fun t e => t.raise e.1 e.2.1 e.2.2) s

/-- The commands gated by authority (R164, class table). -/
def gatedKinds : List RequestKind :=
  [.start, .stop, .restart, .save, .configWrite, .contextWrite, .contextErase, .contextCopy, .calendarWrite, .forceShift,
   .setClock, .overrideBreak, .outputSet, .outputTest, .calibrate, .linesMask]

/-- The panel-only commands (R164, class table). -/
def panelKinds : List RequestKind := [.fireReset, .notices]

/-- A request passes the port and authority classes (R164). -/
def State.admits (s : State) (p : Port) (k : RequestKind) : Prop :=
  (k ∈ panelKinds → p = .panel) ∧ (k ∈ gatedKinds → s.authority.holder = some p)

/-- The one payload length of a kind, where its layout has one (12, Payloads). -/
def fixedLength : RequestKind → Option Nat
  | .ident => some 0
  | .status => some 0
  | .configRead => some 2
  | .configWrite => none
  | .contextRead => some 1
  | .contextWrite => none
  | .contextErase => some 1
  | .contextCopy => some 2
  | .calendarRead => some 3
  | .calendarWrite => none
  | .forceShift => some 1
  | .setClock => some 3
  | .start => some 0
  | .stop => some 0
  | .restart => some 0
  | .save => some 0
  | .claim => some 0
  | .yield => some 0
  | .decline => some 0
  | .overrideSet => some 6
  | .overrideRelease => some 2
  | .overrideBreak => some 2
  | .purge => some 1
  | .linesRead => some 0
  | .linesClear => some 8
  | .linesMask => some 8
  | .events => some 0
  | .snapshot => some 1
  | .notices => some 1
  | .fireReset => some 0
  | .outputSet => some 2
  | .outputTest => some 2
  | .calibrate => some 9

/-- No handover is in progress. -/
def State.settled (s : State) : Prop := ∀ h, s.programme ≠ .handover h

/-! ### What falls due -/

/-- Command `c` falls due at a tick that has left the state `t`, `counted` telling that it counted a site second. Whole
seconds bring the samples, the evaluation, the energy, the late test and the ends of holds, claims, locks and silences
(R13, R22, R36, R79, R150, R153, R162, R168, R172); a site second the queue's rows (R62 to R64); and the rest falls due
when its own time has come (R2, R132, R133, R155, R157, R172, R177, R178). -/
def State.fallsDue (t : State) (counted : Bool) : Instr → Prop
  | .lineSample levels => levels = t.pins.levels
  | .heldOpenCheck => t.now % 100 = 0
  | .channelSample codes => t.now % 100 = 0 ∧ codes = t.pins.codes
  | .zoneEvaluation => t.now % 100 = 0 ∧ t.runMode = .running
  | .controlledEnergySecond => t.now % 100 = 0 ∧ t.runMode = .running
  | .lateTest => t.now % 100 = 0
  | .minOnEnd o => t.now % 100 = 0 ∧ (t.out o).hold = .minOn ∧ ∃ a, (t.out o).lastOn = some a ∧
      a + 100 * (t.outCfg o).minOn ≤ t.now
  | .minOffEnd o => t.now % 100 = 0 ∧ (t.out o).hold = .minOff ∧ ∃ a, (t.out o).lastOff = some a ∧
      a + 100 * (t.outCfg o).minOff ≤ t.now
  | .claimTimeout => t.now % 100 = 0 ∧ ∃ c, t.authority.claim = some c ∧ c.stamp + 100 * t.site.yieldTimeout ≤ t.now
  | .overrideExpiry i => t.now % 100 = 0 ∧ ∃ k, t.lock i = some k ∧ 0 < k.expiry ∧ k.placed + 6000 * k.expiry ≤ t.now
  | .silenceTimeExpiry p => t.now % 100 = 0 ∧ (t.port p).alive = true ∧ ∃ f, (t.port p).lastFrame = some f ∧
      f + 100 * t.site.silenceTime p ≤ t.now
  | .dueEvent => counted = true ∧ t.runMode = .running ∧ t.clock.valid = true ∧
      ∃ e ∈ t.queue.head?, t.timeToDue e = 0 ∨ 3600 < t.timeToDue e
  | .lookAheadRead => counted = true ∧ t.runMode = .running ∧ t.clock.valid = true ∧ t.clock.second = 0 ∧
      t.clock.minute % 15 = 0
  | .purgeLeadReached slot => counted = true ∧ t.runMode = .running ∧ t.clock.valid = true ∧ ∃ e ∈ t.queue, e.slot = slot
  | .preheatLeadReached slot => counted = true ∧ t.runMode = .running ∧ t.clock.valid = true ∧
      ∃ e ∈ t.queue, e.slot = slot
  | .windowEnd => t.runMode = .running ∧ ∃ w, t.alloc.window = some w ∧ w.len ≤ t.windowTime w
  | .allocationRound => t.runMode = .running ∧ ∃ a, t.alloc.nextRound = some a ∧ a ≤ t.now
  | .outputTestEnd o => ∃ e, (t.out o).testEnd = some e ∧ e ≤ t.now
  | .baudSearchDwell p => (t.port p).alive = false ∧ (t.port p).dwellStart + 100 ≤ t.now
  | .snapshotComposition => t.snaps.nextAt ≤ t.now
  | .beaconPatternHalf .fast => t.now % 25 = 0
  | .beaconPatternHalf .slow => t.now % 100 = 0
  | .notice => t.link.pan.sending = false ∧ t.link.pan.tx ≠ []
  | _ => False

/-! ### The line sample -/

/-- Line `l` at a sample with the pin levels `levels`, ready for a debounced change (R1 to R3): its raw level is recorded;
a configuration written since the last sample takes effect, a line turned off reading INACTIVE and the trigger mode
waiting unless it is LEVEL, and then the doors on the line follow it (R12, R13) and a line that becomes a FIRE line while
ACTIVE sets the latch (R15); and its timer stops where the levels agree and runs where they differ. -/
def State.lineReady (s : State) (levels : LineLevels) (l : Nat) : State :=
  let c := s.lineCfg l
  let r := s.line l
  let off : LineRec := { r with active := false, timer := none, pending := false }
  let took : LineRec := if r.inForce = c then r else
    { (if c.enable = true then r else off) with
        inForce := c, trigger := if c.trigger = .level then .level else r.trigger }
  let raw := levels.getLsbD l
  let logical := match c.polarity with | .activeHigh => raw | .activeLow => !raw
  let lines := s.lines.set l { took with
    raw := raw
    timer := if c.enable = false then took.timer else if logical = took.active then none else some (took.timer.getD s.now) }
  let isDoor := c.enable = true ∧ c.role = .door
  let closing := (List.range 48).filter fun d =>
    decide ((s.doorCfg d).line = some l ∧ (s.door d).state = .heldOpen ∧ isDoor ∧ took.active = false)
  let followed : State :=
    { s.raises (closing.map fun d => (.doorClosedAfterHeld, d, min 65535 ((s.now - (s.door d).since) / 100))) with
        lines := lines
        doors := s.doors.mapIdx fun d x =>
          if (s.doorCfg d).line ≠ some l then x
          else if ¬isDoor then { x with state := .disabled }
          else if took.active = false then { x with state := .closed }
          else if x.state = .opened ∨ x.state = .heldOpen then x
          else { x with state := .opened, since := s.now, opens := min 65535 (x.opens + 1) } }
  if r.inForce = c then { s with lines := lines }
  else if ¬(r.inForce.enable = true ∧ r.inForce.role = .fire) ∧ c.enable = true ∧ c.role = .fire ∧ took.active = true then
    followed.setFire l
  else followed

/-- Line `l` at the end of its sample (R4, R9): a LEVEL line that is ACTIVE sets its pending flag where it is clear, with
LINE_TRIGGER on an unmasked line, and an OCCUPANCY one marks its zone's activity while RUNNING. -/
def State.levelHeld (s : State) (l : Nat) : State :=
  let r := s.line l
  if r.inForce.enable = true ∧ r.trigger = .level ∧ r.active = true then
    { s.raises (if r.pending = false ∧ r.inForce.masked = false then [(.lineTrigger, l, 1)] else []) with
        lines := s.lines.set l { r with pending := true }
        activity :=
          if r.inForce.role = .occupancy ∧ s.runMode = .running ∧ s.enabled r.inForce.zone = true then
            s.activity.set r.inForce.zone true
          else s.activity }
  else s

/-! ### A load output's record -/

/-- Output record `r` after its controller has placed the request `q`, `none` where it asks nothing (R144, R149). One that
becomes tier 0 is granted at once if it was not, and an output that is OFF and not forced then goes ON whatever its hold,
with its stamp and MIN_ON; one withdrawn loses its grant unless MIN_ON runs, and an output that is ON then goes OFF with
its stamp and MIN_OFF; one at tier 1 to 3 keeps the grant as it stands, or its lack. -/
def OutputRec.asked (now : Nat) (c : OutputConfig) (q : Option Nat) (r : OutputRec) : OutputRec :=
  match q with
  | some 0 =>
    if r.grant ≠ .none then { r with request := some 0 }
    else if r.drive = true ∨ r.forced ≠ .none then { r with request := some 0, grant := .tier0 }
    else { r with request := some 0, grant := .tier0, drive := true, lastOn := some now
                  hold := if c.minOn = 0 then .none else .minOn }
  | some (k + 1) => { r with request := some (k + 1) }
  | none =>
    if r.hold = .minOn then { r with request := none }
    else if r.drive = true then
      { r with request := none, grant := .none, drive := false, lastOff := some now
               hold := if c.minOff = 0 then .none else .minOff }
    else { r with request := none, grant := .none }

/-- Output record `r` once a test that runs on it has ended (R157): a load output is OFF with its last off time stamped
and MIN_OFF begun. -/
def OutputRec.untested (now : Nat) (c : OutputConfig) (r : OutputRec) : OutputRec :=
  if r.testEnd = none then r
  else if c.function = .heater ∨ c.function = .curtain ∨ c.function = .fan then
    { r with testEnd := none, drive := false, lastOff := some now, hold := if c.minOff = 0 then .none else .minOff }
  else { r with testEnd := none }

/-! ### Windows -/

/-- The aligned boundary next after second `sec` of the week for windows of `w` seconds (R131): a multiple of `w`, or the
end of the week, 604800. -/
def boundaryAfter (w sec : Nat) : Nat := min 604800 (w * (sec / w + 1))

/-- The length of a window that START or SET CLOCK opens at second `sec` of the week (R131): to the next aligned boundary,
or where less than 60 s remain to it, to the one after. -/
def openedLen (w sec : Nat) : Nat :=
  let e := boundaryAfter w sec
  if 60 ≤ e - sec then e - sec
  else if e < 604800 then boundaryAfter w e - sec
  else 604800 - sec + boundaryAfter w 0

/-! ### Handovers and START -/

/-- The releases of a handover's completion or cancel (R169), in lock order. -/
def State.handoverReleases (s : State) : List (EventKind × Nat × Nat) :=
  ((List.range 48).filter fun i => (s.lock i).any Lock.atHandover).map fun i =>
    (.overrideReleased, i, 3 + 256 * partyCode ((s.lock i).map Lock.owner))

/-- The locks with every lock flagged for release at handover EMPTY (R80). -/
def State.unflagged (s : State) : List (Option Lock) :=
  s.locks.map fun k => if k.any Lock.atHandover = true then none else k

/-- The doors with both counts reset (R80). -/
def State.shiftReset (s : State) : List DoorRec := s.doors.map fun d => { d with opens := 0, openSeconds := 0 }

/-- The zones with no participant arrived (R72, R82). -/
def State.unmarked (s : State) : List ZoneRec := s.zones.map fun r => { r with marks := noMarks }

/-- The record a handover from `o` to `n` starts with (R72). -/
def State.freshHandover (s : State) (o n : Nat) (cause : Cause) : Handover :=
  { outgoing := o, incoming := n, cause := cause, elapsed := 0, ramp := ((s.context n).map Context.ramp).getD 0,
    grace := ((s.context n).map Context.grace).getD 0,
    target := 3 * ((List.range 16).filter s.enabled).length, count := 0,
    startLevels := s.zones.map fun r => r.light.present }

/-- A handover from `o` to `n` has started (R72, R86). -/
def State.shifted (s : State) (o n : Nat) (cause : Cause) : State :=
  { s.raises [(.handoverStart, n, o + 16 * cause.code)] with
      programme := .handover (s.freshHandover o n cause), zones := s.unmarked }

/-- A handover in progress has been given the target `n` in place of its own (R82, R86). -/
def State.retargeted (s : State) (h : Handover) (n : Nat) (cause : Cause) : State :=
  { s.raises [(.handoverStart, n, h.outgoing + 16 * cause.code + 256)] with
      programme := .handover { s.freshHandover h.outgoing n cause with target := h.target }, zones := s.unmarked }

/-- A handover toward `n` has completed with the events `es` of its completion (R78 to R80). -/
def State.completed (s : State) (n : Nat) (es : List (EventKind × Nat × Nat)) : State :=
  { s.raises (es ++ s.handoverReleases) with
      programme := .current n, doors := s.shiftReset, locks := s.unflagged }

/-- A purge request of `minutes` has been taken for each enabled zone that satisfies `among` (R123). -/
def State.purged (s : State) (among : Nat → Bool) (minutes : Nat) : State :=
  { s with zones := s.zones.mapIdx fun z r =>
      if among z = true ∧ s.enabled z = true then
        { r with vent := { r.vent with purgeEnd := some (s.now + 6000 * minutes) } }
      else r }

/-- The purges that the entries of a freshly read queue have started, in the queue's order (R63, R123): each for the
enabled zones its context lists, with its context's purge duration. -/
def State.purgedBy (s : State) (q : List QueueEntry) : State :=
  (q.filter QueueEntry.purgeStarted).foldl (fun t e =>
    match s.context e.context with
    | some k => t.purged (fun z => k.entries.any fun x => x.zone == z) k.purgeDur
    | none => t) s

/-- Check `k` of START's table fails at an item (R183). -/
def State.startCheck (s : State) : Nat → Nat → Prop
  | 1, d => d < 48 ∧ ∃ l, (s.doorCfg d).line = some l ∧
      (s.enabled (s.doorCfg d).zone = false ∨ (s.lineCfg l).role ≠ .door)
  | 2, l => l < 64 ∧ (s.lineCfg l).role = .meter ∧
      ((List.range l).filter fun m => (s.lineCfg m).role = .meter).length = 1
  | 3, i => i = 0 ∧ ¬(s.site.l1 < s.site.l2 ∧ s.site.l2 < s.site.l3 ∧ s.site.l3 < s.site.la)
  | 4, c => c < 16 ∧ ∃ r, s.context c = some r ∧ s.site.ceiling < r.cap
  | 5, c => c = s.site.fallback ∧ s.context c = none
  | 6, o => o < 40 ∧ ((∃ z u, (s.outCfg o).ref = .zone z u ∧ s.enabled z = false) ∨
      ∃ d, (s.outCfg o).ref = .door d ∧ (s.doorCfg d).line = none)
  | 7, c => c < 24 ∧ (s.chanCfg c).role ≠ .unused ∧ (s.chanCfg c).codeHi ≤ (s.chanCfg c).codeLo
  | 8, l => l < 64 ∧ (s.lineCfg l).enable = true ∧
      ((s.lineCfg l).role = .occupancy ∨ (s.lineCfg l).role = .purge) ∧ s.enabled (s.lineCfg l).zone = false
  | _, _ => False

/-- The context the look-back from the current slot finds (R65): `m` HOLD slots back. -/
def State.lookedBack (s : State) (m c : Nat) : Prop :=
  m < 672 ∧ (∀ j < m, s.slotValue ((s.clock.minute / 15 + 672 - j) % 672) = none) ∧
  s.slotValue ((s.clock.minute / 15 + 672 - m) % 672) = some c

/-! ### The calendar read afresh -/

/-- The queue that reading the slots current + 1 to current + H gives, from an empty one, with `c` the context in force
(R62, R65): each slot that names a non-EMPTY context other than the one in force there, with the purge and the preheat
whose lead is above 0 and at least the time to the slot started at once. -/
def State.refill (s : State) (c : Option Nat) : List QueueEntry :=
  (List.range s.site.lead).foldl (fun q i =>
    let slot := (s.clock.minute / 15 + 1 + i) % 672
    let left := 900 * (i + 1) - (60 * (s.clock.minute % 15) + s.clock.second)
    let ahead := match q.getLast? with
      | some e => some e.context
      | none => c
    match s.slotValue slot with
    | none => q
    | some n =>
      match s.context n with
      | none => q
      | some r =>
        if ahead = some n then q
        else q ++ [{ slot := slot, context := n
                     purgeStarted := decide (0 < r.purgeLead ∧ left ≤ 60 * r.purgeLead)
                     preheating := decide (0 < r.preheatLead ∧ left ≤ 60 * r.preheatLead) }]) []

/-- The events of that reading: CALENDAR_EMPTY_CONTEXT for each slot that names an EMPTY context, in slot order (R62). -/
def State.refillEvents (s : State) : List (EventKind × Nat × Nat) :=
  (List.range s.site.lead).flatMap fun i =>
    let slot := (s.clock.minute / 15 + 1 + i) % 672
    match s.slotValue slot with
    | none => []
    | some n => if s.context n = none then [(.calendarEmptyContext, n, slot)] else []

/-! ### The visit of a tier -/

/-- Output `o` is granted before the tiers are visited: requested at tier 0, or in its minimum-on hold (R139). -/
def State.grantedAtZero (s : State) (o : Nat) : Bool :=
  s.isLoad o && ((s.out o).request == some 0 || (s.out o).hold == .minOn)

/-- Output `o` waits at tier `k` for its grant. -/
def State.waits (s : State) (k o : Nat) : Bool := s.isLoad o && (s.out o).request == some k && !s.grantedAtZero o

/-- The zone whose fan chain output `o` belongs to. -/
def State.chainOf (s : State) (o : Nat) : Option Nat :=
  if (s.outCfg o).function = .fan then match (s.outCfg o).ref with | .zone z _ => some z | _ => none else none

/-- The chain of zone `z` (R142): its stages from 1 up to the first that has no output, those that wait at tier 1. -/
def State.chain (s : State) (z : Nat) : List Load :=
  let stages := [1, 2, 3].map fun n => (List.range 40).find? fun o =>
    (s.outCfg o).function == .fan && (s.outCfg o).ref == .zone z n
  (((stages.takeWhile Option.isSome).filterMap id).filter (s.waits 1)).map .switched

/-- What the visit of tier `k` takes, in its order (R138, R140, R142, R143): the load list from the entry at the pointer's
position in the list of that tier's entries, wrapping; a zone's fan stages taken together at the first of them it reaches;
a LIGHT entry where its trim part is above 0. -/
def State.tierVisits (s : State) (k ptr : Nat) : List Load :=
  let all : List Load :=
    ((List.range 40).filter s.isLoad).map .switched ++ ((List.range 16).filter s.enabled).map .light
  let tier : Load → Nat := fun
    | .switched o => (s.outCfg o).tier
    | .light z => (s.zone z).light.trimTier
  let mine := (List.range all.length).filter fun i => (all[i]?).map tier == some k
  let start := (mine[ptr % mine.length]?).getD 0
  (all.drop start ++ all.take start).foldl (fun seen x =>
    match x with
    | .light z => if (s.zone z).light.trimTier = k ∧ 0 < (s.zone z).light.trim then seen ++ [x] else seen
    | .switched o =>
      if s.waits k o = false then seen
      else match s.chainOf o with
        | none => seen ++ [x]
        | some z =>
          if k ≠ 1 then seen ++ [x] else if ∀ y ∈ s.chain z, y ∉ seen then seen ++ s.chain z else seen) []

/-! ### START's effects -/

/-- What START's effects leave of the state `s` (R183): the part RUNNING; fire mode only while a FIRE line is ACTIVE
(R16); both counts of every door 0 (R12); every enabled zone OCCUPIED with a full hold, its present level raised to its
floor, its rated watts and trim tier in force the configuration's (log 47), no participant arrived, and its purge end set
by the entries that started their purge as they were read (R47, R63, R99); every test ended and every forcing gone but
FIRE (R152, R157), holds, stamps and commanded values kept; the context installed and the queue read (R65); a window
opened (R131) and the allocator's state afresh (R146). -/
def State.startedTo (s t : State) : Prop :=
  let cleared := s.fire = true ∧ t.fire = false
  let begun : State :=
    { s with
        zones := s.zones.mapIdx fun z r =>
          if s.enabled z = true then
            { r with
                occ := { r.occ with state := .occupied, holdStart := s.now, activity := false, rise := false }
                light := { r.light with
                  present := max r.light.present (s.zoneCfg z).floor, rated := (s.zoneCfg z).rated
                  trimTier := (s.zoneCfg z).trimTier }
                vent := if cleared then { r.vent with stages := r.vent.credited } else r.vent
                marks := noMarks }
          else r }
  let forced := fun o => if t.fire = true ∧ ((s.outCfg o).function = .heater ∨ (s.outCfg o).function = .curtain ∨
    ((s.outCfg o).function = .fan ∧ s.site.fireFan = .off)) then Forced.fire else .none
  let told := fun es : List (EventKind × Nat × Nat) => t.link =
    (s.raises ((if cleared then [(.fireReset, 0, 1)] else []) ++ es)).link
  t.runMode = .running ∧
  t = { s with runMode := t.runMode, fire := t.fire, doors := t.doors, zones := t.zones, programme := t.programme,
               queue := t.queue, readAt := t.readAt, alloc := t.alloc, outputs := t.outputs, link := t.link } ∧
  (t.fire = true ↔ s.fire = true ∧ ∃ l < 64, s.lineIs l .fire = true ∧ (s.line l).active = true) ∧
  t.doors = s.shiftReset ∧ t.zones = (begun.purgedBy t.queue).zones ∧
  (∀ o < 40, (t.out o).testEnd = none ∧ (t.out o).forced = forced o) ∧
  (s.StoppedLaw → s.AirLaw → ∀ o < 40, t.out o = { (s.out o).untested s.now (s.outCfg o) with forced := forced o }) ∧
  (s.clock.valid = false → t.programme = .current s.site.fallback ∧ t.queue = [] ∧ t.readAt = s.readAt ∧ told []) ∧
  (s.clock.valid = true → s.clock.minute < 10080 →
    t.readAt = s.clock.minute / 15 ∧ (s.clock.second < 60 → s.site.lead ≤ 4 → t.queue = s.refill t.programme.inForce) ∧
    ((∀ k < 672, s.slotValue k = none) → t.programme = .current s.site.fallback ∧ told []) ∧
    (∀ m c, s.lookedBack m c →
      ((s.context c).isSome = true → t.programme = .current c ∧ told s.refillEvents) ∧
      (s.context c = none → t.programme = .current s.site.fallback ∧
        told ((.calendarEmptyContext, c, (s.clock.minute / 15 + 672 - m) % 672) :: s.refillEvents)))) ∧
  ∃ w, t.alloc.window = some w ∧
    t.alloc = { s.alloc with window := some w, rot1 := 0, rot2 := 0, rot3 := 0
                             nextRound := some (s.now + 100 * s.site.period), pulses := 0, wattSeconds := 0, uEst := 0
                             meterLost := false, lastPulse := some s.now, record := emptyRecord } ∧
    w.pulses = 0 ∧ w.overRaised = false ∧ (w.base = .site ↔ s.clock.valid = true) ∧
    (s.clock.valid = false → w.start = s.now ∧ w.len = s.site.windowLen) ∧
    (∀ k ≤ 60, 5 ≤ k → s.site.windowLen = 60 * k → s.clock.valid = true → s.clock.minute < 10080 → s.clock.second < 60 →
      w.start = 60 * s.clock.minute + s.clock.second ∧
      w.len = openedLen (60 * k) (60 * s.clock.minute + s.clock.second))

/-! ### Power-on -/

/-- What power-on and RESTART leave in common before autostart (R182): `b` is booted from the image of `s`, STOPPED, with
SETTINGS_INVALID where there was none, CHANNEL_LOST of each channel whose first sample is invalid (R21), and FIRE_ON with
the lowest ACTIVE FIRE line (R16), in that order (the model's choice, log 33), and no other event in its queues. -/
def State.bootStopped (s b : State) (levels : LineLevels) (codes : List (BitVec 12)) : Prop :=
  let image := s.store.image.getD factorySettings
  let loaded : State := { s with settings := image }
  let code := fun c => (codes.getD c 0).toNat
  let valid := fun c => 16 ≤ code c ∧ code c ≤ 4079 ∧ (loaded.chanCfg c).codeLo < (loaded.chanCfg c).codeHi
  let zoneOf := fun c =>
    if (loaded.chanCfg c).role = .zoneTemp ∨ (loaded.chanCfg c).role = .air then (loaded.chanCfg c).zone else 0xFFFF
  let firing := (List.range 64).filter fun l => (loaded.lineCfg l).role == .fire && (b.line l).active
  b.settings = image ∧ b.store = { image := s.store.image, saving := none, loaded := s.store.image.isSome } ∧
  b.pins = { levels := levels, codes := codes } ∧ b.authority = { holder := none, claim := none } ∧
  b.locks = List.replicate 48 none ∧ b.activity = List.replicate 16 false ∧
  (∀ l < 64, b.line l =
    { raw := levels.getLsbD l
      active := (loaded.lineCfg l).enable &&
        (match (loaded.lineCfg l).polarity with | .activeHigh => levels.getLsbD l | .activeLow => !levels.getLsbD l)
      timer := none, pending := false, inForce := loaded.lineCfg l, trigger := (loaded.lineCfg l).trigger }) ∧
  (∀ d < 48, (b.door d).opens = 0 ∧ (b.door d).openSeconds = 0 ∧ ((b.door d).state = .opened → (b.door d).since = b.now) ∧
    (b.door d).state = match (loaded.doorCfg d).line with
      | none => .disabled
      | some l => if (loaded.lineCfg l).enable = true ∧ (loaded.lineCfg l).role = .door then
          (if (b.line l).active = true then .opened else .closed) else .disabled) ∧
  (∀ c < 24, (b.chan c).code = code c ∧ (b.chan c).fresh = false ∧
    ((loaded.chanCfg c).role ≠ .unused → valid c → (b.chan c).quality = .good ∧
      (b.chan c).value = convert (loaded.chanCfg c) (code c) ∧ (b.chan c).history = [convert (loaded.chanCfg c) (code c)]) ∧
    ((loaded.chanCfg c).role = .unused ∨ ¬valid c →
      (b.chan c).quality = .lost ∧ (b.chan c).value = 0 ∧ (b.chan c).history = [])) ∧
  b.runMode = .stopped ∧ b.programme = .none ∧ b.queue = [] ∧ b.readAt = 0 ∧ b.alloc = bootAlloc ∧
  b.outputs = List.replicate 40 bootOutput ∧ (b.fire = true ↔ firing ≠ []) ∧
  (∀ z < 16, b.zone z = bootZone (loaded.zoneCfg z)
    (if loaded.enabled z = true then (if b.fire = true then 100 else image.site.stoppedLevel) else 0)) ∧
  b.zones.length = 16 ∧ b.doors.length = 48 ∧ b.lines.length = 64 ∧
  b.link.notices = false ∧
  b.link = (({ b with link := { sup := { b.link.sup with events := [], lost := 0 }
                                pan := { b.link.pan with events := [], lost := 0 }, notices := false } } : State).raises
    ((if s.store.image = none then [(.settingsInvalid, 0, 0)] else []) ++
     ((List.range 24).filter fun c => decide ((loaded.chanCfg c).role ≠ .unused ∧ ¬valid c)).map
       (fun c => (.channelLost, c, zoneOf c)) ++
     firing.head?.toList.map fun l => (.fireOn, l, 0))).link

/-- What power-on and RESTART leave in common (R182): the STOPPED part that has just been booted; or with autostart what
START's effects leave of it, or that part with START_REFUSED where a check of START fails. -/
def State.bootedTo (s t : State) (levels : LineLevels) (codes : List (BitVec 12)) : Prop :=
  ∃ b, s.bootStopped b levels codes ∧
    (b.site.autostart = false → t = b) ∧
    (b.site.autostart = true → (∀ k i, ¬b.startCheck k i) → b.startedTo t) ∧
    (∀ k i, b.site.autostart = true → b.startCheck k i →
      (∀ k' i', b.startCheck k' i' → k < k' ∨ (k = k' ∧ i ≤ i')) → t = b.raises [(.startRefused, k, i)])

end Sys2Proof.Machine
end

