-- ==== Sys2Proof/WellFormed.lean ====
section
/-! DEFINITION. The commands that can reach the part: what the frame and the pins allow (R2, R22, R173, R175). -/

namespace Sys2Proof

open Machine

/-- A payload a frame can carry (R173). -/
def payloadOk (b : List Byte) : Bool := b.length ≤ Config.maxPayload

/-- One code for each channel (R22). -/
def codesOk (codes : List (BitVec 12)) : Bool := codes.length == Config.channels

/-- The kind of an UNKNOWN_KIND row is in no row of the message kinds table (R174). -/
def kindUnknown (kind : Byte) : Bool := (RequestKind.ofCode kind.toNat).isNone

/-- A command is well formed: its payload fits a frame, a CONFIG WRITE row carries its own class, an UNKNOWN_KIND row an
unknown kind, and a sample one code for each channel. -/
def Instr.wf : Instr → Bool
  | .ident _ b => payloadOk b
  | .status _ b => payloadOk b
  | .configRead _ b => payloadOk b
  | .configWriteSite p b => payloadOk b && configWriteRow p b == .configWriteSite p b
  | .configWriteZone p b => payloadOk b && configWriteRow p b == .configWriteZone p b
  | .configWriteDoor p b => payloadOk b && configWriteRow p b == .configWriteDoor p b
  | .configWriteLine p b => payloadOk b && configWriteRow p b == .configWriteLine p b
  | .configWriteChannel p b => payloadOk b && configWriteRow p b == .configWriteChannel p b
  | .configWriteOutput p b => payloadOk b && configWriteRow p b == .configWriteOutput p b
  | .contextRead _ b => payloadOk b
  | .contextWrite _ b => payloadOk b
  | .contextErase _ b => payloadOk b
  | .contextCopy _ b => payloadOk b
  | .calendarRead _ b => payloadOk b
  | .calendarWrite _ b => payloadOk b
  | .forceShift _ b => payloadOk b
  | .setClock _ b => payloadOk b
  | .start _ b => payloadOk b
  | .stop _ b => payloadOk b
  | .restart _ b _ codes => payloadOk b && codesOk codes
  | .save _ b => payloadOk b
  | .claim _ b => payloadOk b
  | .yield _ b => payloadOk b
  | .decline _ b => payloadOk b
  | .overrideSet _ b => payloadOk b
  | .overrideRelease _ b => payloadOk b
  | .overrideBreak _ b => payloadOk b
  | .purge _ b => payloadOk b
  | .linesRead _ b => payloadOk b
  | .linesClear _ b => payloadOk b
  | .linesMask _ b => payloadOk b
  | .events _ b => payloadOk b
  | .snapshot _ b => payloadOk b
  | .notices _ b => payloadOk b
  | .fireReset _ b => payloadOk b
  | .outputSet _ b => payloadOk b
  | .outputTest _ b => payloadOk b
  | .calibrate _ b => payloadOk b
  | .unknownKind _ k b => payloadOk b && kindUnknown k
  | .frameDiscard _ _ => true
  | .frameByteTimeout _ => true
  | .frameNotAddressed => true
  | .baudSearchDwell _ => true
  | .silenceTimeExpiry _ => true
  | .notice => true
  | .powerOn _ codes => codesOk codes
  | .saveWriteComplete => true
  | .snapshotComposition => true
  | .debouncedChange _ => true
  | .heldOpenCheck => true
  | .channelSample codes => codesOk codes
  | .channelHoldExpiry _ => true
  | .zoneEvaluation => true
  | .occupancyHoldExpiry _ => true
  | .graceExpiry _ => true
  | .downDelayExpiry _ => true
  | .purgeEnd _ => true
  | .handoverRampEnd => true
  | .lateTest => true
  | .lookAheadRead => true
  | .dueEvent => true
  | .purgeLeadReached _ => true
  | .preheatLeadReached _ => true
  | .allocationRound => true
  | .meterSilenceExpiry => true
  | .windowEnd => true
  | .controlledEnergySecond => true
  | .minOnEnd _ => true
  | .minOffEnd _ => true
  | .outputTestEnd _ => true
  | .claimTimeout => true
  | .overrideExpiry _ => true
  | .lineSample _ => true
  | .beaconPatternHalf _ => true
  | .sendComplete _ => true

end Sys2Proof
end

