-- ==== Sys2Proof/Certificates/Slice0/Obligations.lean ====
section
/-! DEFINITION. The statements for the provers, from the numbered rules of the manual. A statement about a request gives
the whole next state: `answered` adds the reply to what the effects left, and `framed` stamps the port. -/

open Sys2Proof Sys2Proof.Machine

/-! ### Steps and time -/

/-- A step takes the command at the front of the queue and runs it on the state with the queue's rest. -/
def Obligations.StepTakesTheFrontCommand : Prop :=
  ∀ (c : Instr) (rest : List Instr) (s : State),
    s.pending = c :: rest → step s = exec c { s with pending := rest }

/-- Model's choice (logs 1, 2, 3 and 6): on an empty queue 10 ms pass. The elapsed-time base advances by one unit; the
site clock counts a second, wrapping at the minute and the week, when the running site second's length has run, and the
next one is as long as the trim makes it (R49); at a whole second the handover timer advances, before the evaluation of
that second (R73; log 42); and the rows that fall due at the tick join the queue, each of them once and no other, in an
order that is the model's (log 2): `fallsDue` tells row by row when each does. Of those, that a queue's head more than
3600 s away counts as due (log 29), that a test ends at the 10 ms tick that reaches its end (log 45) and that the idle
step begins a waiting notice (log 9) are the model's readings. -/
def Obligations.IdleStepPassesTimeAndQueuesWhatFallsDue : Prop :=
  ∀ s : State, s.pending = [] → ∃ t, step s = .next t ∧
    t = { s with now := s.now + 1, clock := t.clock, programme := t.programme, pending := t.pending } ∧
    (s.clock.phase + 10000 < s.clock.secondLen → t.clock = { s.clock with phase := s.clock.phase + 10000 }) ∧
    (s.clock.secondLen ≤ s.clock.phase + 10000 → t.clock =
      { s.clock with
          minute := if s.clock.second < 59 then s.clock.minute
            else if s.clock.minute < 10079 then s.clock.minute + 1 else 0
          second := if s.clock.second < 59 then s.clock.second + 1 else 0
          phase := s.clock.phase + 10000 - s.clock.secondLen
          secondLen := (1000000 - s.site.clockTrim).toNat }) ∧
    (s.settled ∨ (s.now + 1) % 100 ≠ 0 → t.programme = s.programme) ∧
    (∀ h, s.programme = .handover h → (s.now + 1) % 100 = 0 →
      t.programme = .handover { h with elapsed := h.elapsed + 1 }) ∧
    ((∀ e ∈ s.queue, e.slot < 672) → (s.queue.map QueueEntry.slot).Nodup →
      t.pending.Nodup ∧ ∀ c, c ∈ t.pending ↔ t.fallsDue (decide (s.clock.secondLen ≤ s.clock.phase + 10000)) c)

/-! ### Frames and requests -/

/-- A request's frame, after any bytes but the start byte and before any other bytes, is read back as the request (R173):
the frame drops no byte of the command. -/
def Obligations.RequestFrameIsReadBack : Prop :=
  ∀ (i : Instr) (p : Port) (k address station : Nat) (b before after : List Byte) (levels : LineLevels)
    (codes : List (BitVec 12)),
    i.wf = true → requestParts i = some (p, k, b) → (∀ x ∈ before, x ≠ 0xC3#8) → address < 256 →
    (p = .supervisor → address = station) → (∀ q c l m, i = .restart q c l m → l = levels ∧ m = codes) →
    decodeFrame p station levels codes (before ++ frameBytes address k b ++ after) = some i

/-- What a frame without the marks of a valid, addressed request becomes (R173): abandoned at a length byte above 200,
timed out where the bytes end early, discarded where the CRC differs, not taken on the Supervisor Port at another
station's address; and the CRC of the nine bytes "123456789" is 29B1h. After a frame, whole or abandoned at its length
byte, the port waits for a start byte again, discarding every other byte, so that a run of bytes is read as all the
frames in it, in their order. That bytes reach the part as such runs, each followed by a gap of 20 bit-times, is the
model's (log 7). -/
def Obligations.OtherFramesAreSorted : Prop :=
  (∀ (p : Port) (station : Nat) (levels : LineLevels) (codes : List (BitVec 12)) (address kind len : Byte)
    (rest : List Byte),
    (200 < len.toNat →
      decodeFrame p station levels codes (0xC3#8 :: address :: kind :: len :: rest) = some (.frameDiscard p .length)) ∧
    (len.toNat ≤ 200 → rest.length < len.toNat + 2 →
      decodeFrame p station levels codes (0xC3#8 :: address :: kind :: len :: rest) = some (.frameByteTimeout p))) ∧
  (∀ (p : Port) (station : Nat) (levels : LineLevels) (codes : List (BitVec 12)) (address kind hi lo : Byte)
    (payload after : List Byte),
    payload.length ≤ 200 →
    (hi ++ lo ≠ crc16 (address :: kind :: BitVec.ofNat 8 payload.length :: payload) →
      decodeFrame p station levels codes
        (0xC3#8 :: address :: kind :: BitVec.ofNat 8 payload.length :: payload ++ hi :: lo :: after) =
        some (.frameDiscard p .crc)) ∧
    (hi ++ lo = crc16 (address :: kind :: BitVec.ofNat 8 payload.length :: payload) →
      p = .supervisor → address.toNat ≠ station →
      decodeFrame p station levels codes
        (0xC3#8 :: address :: kind :: BitVec.ofNat 8 payload.length :: payload ++ hi :: lo :: after) =
        some .frameNotAddressed)) ∧
  crc16 [0x31#8, 0x32#8, 0x33#8, 0x34#8, 0x35#8, 0x36#8, 0x37#8, 0x38#8, 0x39#8] = 0x29B1#16 ∧
  (∀ (p : Port) (station : Nat) (levels : LineLevels) (codes : List (BitVec 12)),
    let read := decodeFrames p station levels codes
    read [] = [] ∧
    (∀ (b : Byte) (rest : List Byte), b ≠ 0xC3#8 → read (b :: rest) = read rest) ∧
    (∀ (address kind len : Byte) (rest : List Byte), 200 < len.toNat →
      read (0xC3#8 :: address :: kind :: len :: rest) = .frameDiscard p .length :: read rest) ∧
    (∀ rest : List Byte, rest.length < 3 → read (0xC3#8 :: rest) = [.frameByteTimeout p]) ∧
    (∀ (address kind len : Byte) (rest : List Byte), len.toNat ≤ 200 → rest.length < len.toNat + 2 →
      read (0xC3#8 :: address :: kind :: len :: rest) = [.frameByteTimeout p]) ∧
    (∀ (address kind hi lo : Byte) (payload after : List Byte), payload.length ≤ 200 → ∃ c,
      let frame := 0xC3#8 :: address :: kind :: BitVec.ofNat 8 payload.length :: payload ++ [hi, lo]
      decodeFrame p station levels codes frame = some c ∧ read (frame ++ after) = c :: read after) ∧
    (∀ bytes : List Byte, decodeFrame p station levels codes bytes = (read bytes).head?)) ∧
  (∀ (s : State) (p : Port) (bytes : List Byte), s.receive p bytes =
    { s with pending := s.pending ++ decodeFrames p s.site.station s.pins.levels s.pins.codes bytes })

/-- A request that arrives while the part is sending on the same port is discarded without reply (R173): an ALIVE port
is left as it stands. That a searching port takes up its next dwell is the model's reading (log 10). -/
def Obligations.RequestWhileSendingIsDiscarded : Prop :=
  ∀ (c : Instr) (s : State) (p : Port) (k : Nat) (b : List Byte),
    requestParts c = some (p, k, b) → (s.port p).sending = true →
    exec c s = .next (s.updPort p fun r => if r.alive = true then r else { r with rate := r.rate.next, dwellStart := s.now })

/-- The first checks of every request (R164, R174): a kind the part does not know is refused with UNKNOWN_KIND, a
panel-only command on the Supervisor Port with WRONG_PORT, and a gated command from a sender that is not the holder with
NOT_HOLDER, whatever the payload; past them a payload that has not the one length of its kind's layout is refused with
BAD_LENGTH. A refusal changes nothing but the port. -/
def Obligations.RequestsAreRefusedByKindClassAndLength : Prop :=
  (∀ (s : State) (p : Port) (kind : Byte) (b : List Byte), s.takes p b →
    exec (.unknownKind p kind b) s = .next (s.answered p kind.toNat .unknownKind [] (s.framed p))) ∧
  (∀ (c : Instr) (s : State) (k : RequestKind) (b : List Byte), c.wf = true →
    requestParts c = some (.supervisor, k.code, b) → s.takes .supervisor b → k ∈ panelKinds →
    exec c s = .next (s.refused .supervisor k .wrongPort)) ∧
  (∀ (c : Instr) (s : State) (p : Port) (k : RequestKind) (b : List Byte), c.wf = true →
    requestParts c = some (p, k.code, b) → s.takes p b → k ∈ gatedKinds → s.authority.holder ≠ some p →
    exec c s = .next (s.refused p k .notHolder)) ∧
  (∀ (c : Instr) (s : State) (p : Port) (k : RequestKind) (b : List Byte) (n : Nat), c.wf = true →
    requestParts c = some (p, k.code, b) → s.takes p b → s.admits p k → fixedLength k = some n → b.length ≠ n →
    exec c s = .next (s.refused p k .badLength))

/-- What frames that are no request do to their port, and the baud search (R172, R173): a discarded or timed-out frame
leaves an ALIVE port as it stands; a valid frame for another station keeps the port alive, or finds it; and a searching
port that has listened for 1 s moves to the next rate of 9600, 19200, 38400, 115200, 9600. That a searching port takes
up its next dwell after a discarded frame is the model's reading (log 10). -/
def Obligations.FramesAndTheBaudSearchActOnThePort : Prop :=
  (∀ (s : State) (p : Port) (cause : DiscardCause),
    exec (.frameDiscard p cause) s = exec (.frameByteTimeout p) s ∧
    exec (.frameByteTimeout p) s = .next (s.updPort p fun r =>
      if r.alive = true then r else { r with rate := r.rate.next, dwellStart := s.now })) ∧
  (∀ s : State, s.link.sup.sending = false → exec .frameNotAddressed s = .next (s.framed .supervisor)) ∧
  (∀ s : State, s.link.sup.sending = true → exec .frameNotAddressed s = exec (.frameDiscard .supervisor .sending) s) ∧
  (∀ (s : State) (p : Port), (s.port p).alive = false → (s.port p).dwellStart + 100 ≤ s.now →
    exec (.baudSearchDwell p) s =
      .next (s.updPort p fun r => { r with rate := r.rate.next, dwellStart := s.now })) ∧
  (∀ (s : State) (p : Port), ((s.port p).alive = true ∨ s.now < (s.port p).dwellStart + 100) →
    exec (.baudSearchDwell p) s = .next s) ∧
  [Rate.r9600.next, Rate.r19200.next, Rate.r38400.next, Rate.r115200.next] =
    [Rate.r19200, Rate.r38400, Rate.r115200, Rate.r9600]

/-- A port that has been without a valid frame for its silence time becomes SILENT (R172): it searches from the rate it
had locked; authority passes from it by the roles of R163; its override locks, and no others, become EMPTY (R169); on the
Panel Port notices become OFF; and the events are PORT_SILENT, then AUTHORITY_CHANGE, then one OVERRIDE_RELEASED for each
lock (their order is the model's, log 33). Nothing else changes. An ALIVE port not yet due is left alone. -/
def Obligations.SilenceTakesAuthorityAndLocks : Prop :=
  ∀ (s : State) (p : Port) (f : Nat), s.Sized → (s.port p).lastFrame = some f →
    ((s.port p).alive = true → f + 100 * s.site.silenceTime p ≤ s.now →
      let owned := fun i => (s.lock i).any fun k => k.owner = p
      let searching := s.updPort p fun r => { r with alive := false, dwellStart := s.now }
      let told := searching.raises
        ([(.portSilent, partyCode (some p), s.site.silenceTime p)] ++
         (if s.authority.holder = some p then
            [(.authorityChange, partyCode (s.authority.claim.map Claim.claimant), 3 + 256 * partyCode (some p))]
          else []) ++
         ((List.range 48).filter owned).map fun i => (.overrideReleased, i, 2 + 256 * partyCode (some p)))
      exec (.silenceTimeExpiry p) s = .next
        { told with
            authority :=
              if s.authority.holder = some p then { holder := s.authority.claim.map Claim.claimant, claim := none }
              else if s.authority.claim.map Claim.claimant = some p then { s.authority with claim := none }
              else s.authority
            locks := s.locks.map fun k => if k.any (fun k => k.owner = p) = true then none else k
            link := { told.link with notices := if p = .panel then false else s.link.notices } }) ∧
    (s.now < f + 100 * s.site.silenceTime p → exec (.silenceTimeExpiry p) s = .next s)

/-- The event queues (R176): EVENTS returns the sender's lost count, a number n of at most 8 and the n oldest records,
which leave the queue, and sets the lost count to 0; an event appended to a queue of 24 first removes the oldest and
adds one to the lost count up to 255, and one appended to a shorter queue loses nothing; its time is the site clock's,
or NO_CLOCK while INVALID. A record's seven bytes are kind, minute, second, subject and value, the kinds numbered from
01h. Notices and sending (R177, R173): while notices are ON an event forms a notice frame of kind E0h with the record as
its payload (the station address it carries is the model's reading, log 11), and nothing else changes; NOTICES from the
panel sets the setting to OFF for 0 and ON for 1 and refuses any other value; a notice that waits is sent once the port
is free; and a frame that has been sent makes way for the next, which a reply begins at once (the model's reading, log
9). -/
def Obligations.EventsAreQueuedFetchedAndNotified : Prop :=
  (∀ (s : State) (p : Port), (s.port p).sending = false →
    exec (.events p []) s =
      s.replies p .events .ok
        (BitVec.ofNat 8 (s.port p).lost :: BitVec.ofNat 8 (min 8 (s.port p).events.length) ::
          ((s.port p).events.take 8).flatMap EventRec.bytes)
        ((s.framed p).updPort p fun r => { r with events := r.events.drop 8, lost := 0 })) ∧
  (∀ (k : EventKind) (subject value minute second : Nat),
    EventRec.bytes { kind := k, time := some (minute, second), subject := subject, value := value } =
      [BitVec.ofNat 8 k.code, BitVec.ofNat 8 (minute / 256), BitVec.ofNat 8 minute, BitVec.ofNat 8 second,
       BitVec.ofNat 8 subject, BitVec.ofNat 8 (value / 256), BitVec.ofNat 8 value] ∧
    EventRec.bytes { kind := k, time := none, subject := subject, value := value } =
      [BitVec.ofNat 8 k.code, 0xFF, 0xFF, 0xFF, BitVec.ofNat 8 subject, BitVec.ofNat 8 (value / 256),
       BitVec.ofNat 8 value]) ∧
  [EventKind.lineTrigger, .doorHeldOpen, .doorClosedAfterHeld, .fireOn, .fireReset, .channelLost, .channelRecovered,
    .calendarEmptyContext, .clockSet, .handoverStart, .handoverDone, .handoverLate, .handoverCancelled, .airAlarm,
    .airClear, .windowClosed, .overTarget, .overrun, .meterLost, .meterRecovered, .authorityChange, .claimPending,
    .claimDeclined, .overrideReleased, .portSilent, .saveDone, .settingsInvalid, .startRefused].map EventKind.code =
    List.range' 1 28 ∧
  (∀ (s : State) (k : EventKind) (subject value : Nat), subject < 256 → value < 65536 →
    ∃ e : EventRec, e = { kind := k, time := if s.clock.valid = true then some (s.clock.minute, s.clock.second) else none,
                          subject := subject, value := value } ∧
      s.raise k subject value = { s with link := (s.raise k subject value).link } ∧
      (s.raise k subject value).link.notices = s.link.notices ∧
      (s.raise k subject value).link.sup.tx = s.link.sup.tx ∧
      (s.raise k subject value).link.pan.tx =
        s.link.pan.tx ++ (if s.link.notices = true then [{ address := s.site.station, kind := 0xE0, payload := e.bytes }]
          else []) ∧
      ∀ p : Port,
        (s.raise k subject value).port p = { s.port p with
          tx := ((s.raise k subject value).port p).tx
          events := ((s.raise k subject value).port p).events
          lost := ((s.raise k subject value).port p).lost } ∧
        ((s.port p).events.length < 24 →
          ((s.raise k subject value).port p).events = (s.port p).events ++ [e] ∧
          ((s.raise k subject value).port p).lost = (s.port p).lost) ∧
        (24 ≤ (s.port p).events.length →
          ((s.raise k subject value).port p).events = (s.port p).events.drop 1 ++ [e] ∧
          ((s.raise k subject value).port p).lost = min 255 ((s.port p).lost + 1))) ∧
  (∀ (s : State) (v : Byte), s.link.pan.sending = false →
    exec (.notices .panel [v]) s =
      if v = 0 then s.replies .panel .notices .ok []
          { s.framed .panel with link := { (s.framed .panel).link with notices := false } }
      else if v = 1 then s.replies .panel .notices .ok []
          { s.framed .panel with link := { (s.framed .panel).link with notices := true } }
      else .next (s.refused .panel .notices .badReference)) ∧
  (∀ s : State, s.link.pan.sending = false → s.link.pan.tx ≠ [] →
    exec .notice s = .next (s.updPort .panel fun r => { r with sending := true })) ∧
  (∀ (s : State) (p : Port) (f : TxFrame) (rest : List TxFrame), (s.port p).sending = true → (s.port p).tx = f :: rest →
    exec (.sendComplete p) s = .next (s.updPort p fun r =>
      { r with tx := rest, sending := rest.head?.any fun g => g.kind ≠ 0xE0 }))

/-- IDENT and STATUS (R180), byte for byte: a non-empty payload is refused with BAD_LENGTH, and both change no state.
The silicon revision is whatever the part's is. -/
def Obligations.IdentAndStatusReportThePart : Prop :=
  ∀ (s : State) (p : Port) (b : List Byte), s.takes p b →
    (b ≠ [] → exec (.ident p b) s = .next (s.refused p .ident .badLength) ∧
      exec (.status p b) s = .next (s.refused p .status .badLength)) ∧
    (b = [] →
      exec (.ident p b) s = s.replies p .ident .ok
        ([0x48, 0x41, 0x43, 0x4F, 0x56, 0x49, 0x4E, 0x53, 0x43, 0x31, 0x36] ++ [Config.siliconRevision] ++
         [0, 16, 0, 48, 0, 64, 0, 24, 0, 40, 0, 16, 0, 16, 0, 192, 2, 160, 0, 4, 0, 48, 0, 24, 2, 40, 0, 180])
        (s.framed p) ∧
      exec (.status p b) s = s.replies p .status .ok
        [if s.runMode = .running then 1 else 0, if s.fire = true then 1 else 0,
         BitVec.ofNat 8 (partyCode s.authority.holder),
         BitVec.ofNat 8 (partyCode (s.authority.claim.map Claim.claimant)),
         if p = .supervisor ∨ s.link.sup.alive = true then 1 else 0, BitVec.ofNat 8 s.link.sup.rate.code,
         if p = .panel ∨ s.link.pan.alive = true then 1 else 0, BitVec.ofNat 8 s.link.pan.rate.code,
         if s.clock.valid = true then 1 else 0, if s.store.saving ≠ none then 1 else 0,
         BitVec.ofNat 8 (s.port p).lost, if s.outdoorReading = none then 1 else 0,
         if s.store.loaded = true then 1 else 0]
        (s.framed p))

/-- SAVE (R181): from the holder it captures the settings as they stand, makes SAVE busy and leaves no complete image,
or is refused with BUSY; when the write completes the captured image is the stored one, SAVE is no longer busy, and
SAVE_DONE carries the number of non-EMPTY contexts saved. -/
def Obligations.SaveWritesTheCapturedSettings : Prop :=
  (∀ (s : State) (p : Port), (s.port p).sending = false → s.authority.holder = some p →
    exec (.save p []) s =
      if s.store.saving = none then
        s.replies p .save .ok []
          { s.framed p with store := { s.store with image := none, saving := some s.settings } }
      else .next (s.refused p .save .busy)) ∧
  (∀ (s : State) (k : Settings), s.store.saving = some k →
    exec .saveWriteComplete s =
      .next { s.raises [(.saveDone, 0, (k.contexts.filter Option.isSome).length)] with
                store := { s.store with image := some k, saving := none } })

/-! ### Snapshots -/

/-- SNAPSHOT (R179), whole: the refusals, page 0 with its exchange of NEWEST and the sender's HELD buffer, marked NEW or
SAME, pages 1 to 3 from the HELD buffer, and the bytes of each page. -/
def Obligations.SnapshotGivesPagesOfTheHeldBuffer : Prop :=
  ∀ (s : State) (p : Port) (b : List Byte), s.takes p b →
    (b.length ≠ 1 → exec (.snapshot p b) s = .next (s.refused p .snapshot .badLength)) ∧
    (∀ k : Byte, b = [k] →
      (3 < k.toNat → exec (.snapshot p b) s = .next (s.refused p .snapshot .badReference)) ∧
      (k.toNat ≤ 3 → (0 < k.toNat ∨ s.snaps.newest = none) → s.snaps.held p = none →
        exec (.snapshot p b) s = .next (s.refused p .snapshot .noData)) ∧
      (∀ x, k.toNat ≤ 3 → s.snaps.held p = some x → (0 < k.toNat ∨ ∀ n ∈ s.snaps.newest, n.count ≤ x.count) →
        exec (.snapshot p b) s = s.replies p .snapshot .ok
          (k :: u32 x.count ++ 0 :: (x.bytes.drop (180 * k.toNat)).take 180) (s.framed p)) ∧
      (∀ n, k = 0 → s.snaps.newest = some n → (∀ x ∈ s.snaps.held p, x.count < n.count) →
        exec (.snapshot p b) s = s.replies p .snapshot .ok (0 :: u32 n.count ++ 1 :: n.bytes.take 180)
          { s.framed p with snaps := match p with
              | .supervisor => { s.snaps with newest := s.snaps.heldSup, heldSup := some n }
              | .panel => { s.snaps with newest := s.snaps.heldPan, heldPan := some n } }))

/-- A composition (R178) writes the next count and 552 bytes into the buffer that was FILL, which becomes NEWEST, and
the former NEWEST becomes FILL; the HELD buffers are untouched, and the next composition falls P seconds on. The 552
bytes are the site part, the 16 zone entries and the 48 door entries, field by field as Record formats lists them
(`packPart` writes fields of the widths given, most significant bit first); of the site part the shed state and the
meter state are those of the latest round, as the allocation record stands (R145; that R19's shed state is this one is
the model's reading, log 25); an EMPTY lock's value is 0 (the model's choice, log
48). -/
def Obligations.CompositionExchangesFillAndNewest : Prop :=
  (∀ s : State, ∃ t, exec .snapshotComposition s = .next t ∧ t = { s with snaps := t.snaps } ∧
    ∃ x, t.snaps.newest = some x ∧ x.count = s.snaps.count + 1 ∧ x.bytes.length = 552 ∧
    t.snaps = { s.snaps with fill := s.snaps.newest, newest := some x, count := s.snaps.count + 1,
                             nextAt := s.now + 100 * s.site.period } ∧
    (let flag := fun b : Bool => ((1, if b = true then 1 else 0) : Nat × Nat)
     let kilo := fun w : Nat => ((11, min 2047 (w / 4000)) : Nat × Nat)
     let signed := fun (n : Nat) (i : Int) => ((n, (BitVec.ofInt n i).toNat) : Nat × Nat)
     let reading := fun r : Option Int => match r with
       | none => ((16, 0x8000) : Nat × Nat)
       | some v => signed 16 v
     let a := s.alloc.record
     x.bytes.take 40 = packPart 40
       ([(32, s.snaps.count + 1), (14, s.clock.minute), (6, s.clock.second), flag s.clock.valid,
         flag (decide (s.runMode = .running)), flag s.fire, flag a.shed, flag s.outdoorSubstituted, flag a.meterLost,
         flag (s.alloc.window.any Window.overRaised), flag s.store.saving.isSome, (2, partyCode s.authority.holder),
         (2, partyCode (s.authority.claim.map Claim.claimant)), flag s.link.sup.alive, flag s.link.pan.alive,
         flag s.link.notices, signed 11 s.outdoor, reading s.daylight, (5, s.programme.currentNo.getD 31),
         (5, s.programme.outgoingNo.getD 31), (5, s.programme.incomingNo.getD 31), (3, s.queue.length),
         (4, (s.queue.head?.map QueueEntry.context).getD 0), (14, (s.queue.head?.map fun e => 15 * e.slot).getD 0)] ++
        (match s.programme with
         | .handover h => [(2, h.cause.code), (13, h.elapsed), (6, h.target), (6, h.count)]
         | _ => [(2, 3), (13, 0), (6, 0), (6, 0)]) ++
        [flag a.short1, flag a.short2, flag a.short3, (12, (s.alloc.window.map s.windowTime).getD 0),
         (12, (s.alloc.window.map Window.len).getD 0), kilo a.target, kilo a.used, kilo a.allow, kilo a.measured,
         kilo a.cavg, kilo a.uEst, kilo a.budget, kilo a.tier0, kilo s.alloc.last.used, kilo s.alloc.last.target,
         (12, s.alloc.last.len), (12, s.alloc.last.ran), flag s.alloc.last.exceeded, flag s.alloc.last.short]) ∧
     (∀ z < 16,
       let r := s.zone z
       let owner := fun i => partyCode ((s.lock (3 * z + i)).map Lock.owner)
       let value := fun i => ((s.lock (3 * z + i)).map Lock.value).getD 0
       (x.bytes.drop (40 + 20 * z)).take 20 = packPart 20
         [flag (s.enabled z), (2, r.occ.state.code),
          (2, match r.prog.source with | .idle => 0 | .current _ => 1 | .incoming _ => 2), flag r.prog.preheat.isSome,
          flag r.marks.light, flag r.marks.heat, flag r.marks.vent, flag r.prog.heat, flag r.heat.cold, flag r.heat.frost,
          flag r.vent.alarm, flag r.vent.purgeEnd.isSome, flag (decide (0 < r.light.present)), (6, s.doorsOpen z),
          reading (s.zoneTemp z), reading (s.zoneAir z), (7, r.light.target), (7, r.light.untrim), (7, r.light.granted),
          (7, r.light.present), (16, r.light.grantedTrim), signed 16 r.heat.setpoint, (2, r.heat.stage),
          (2, r.heat.debtStage), (2, r.heat.units), (2, s.unitsGranted z), (12, r.heat.debt), (2, r.prog.ventMin),
          (2, r.vent.air), (2, r.vent.nonAir), (2, r.vent.stages), (2, s.grantedFanStage z), (2, owner 0), (2, owner 1),
          (2, owner 2), (7, value 0), (2, value 1), (2, value 2)])) ∧
    (∀ d < 48,
      let opens := min 16383 (s.door d).opens
      (x.bytes.drop (360 + 4 * d)).take 4 =
        [BitVec.ofNat 8 (64 * (s.door d).state.code + opens / 256), BitVec.ofNat 8 opens,
         BitVec.ofNat 8 ((s.door d).openSeconds / 256), BitVec.ofNat 8 (s.door d).openSeconds])) ∧
  packPart 4 [(2, 2), (14, 19), (16, 2630)] = [0x80, 0x13, 0x0A, 0x46]

/-- The law of the held snapshot (R178): no step but a page-0 fetch by the port itself and a power-on changes what the
port's HELD buffer holds. -/
def Obligations.HeldSnapshotChangesOnlyAtItsOwnPageZero : Prop :=
  ∀ (s t : State) (p : Port), step s = .next t → t.snaps.held p ≠ s.snaps.held p →
    (∃ rest, s.pending = .snapshot p [0] :: rest) ∨ ∃ levels codes rest, s.pending = .powerOn levels codes :: rest

/-! ### Authority and overrides -/

/-- CLAIM (R160), row by row: HELD for the holder, granted where no party holds, pending where the other party holds with
CLAIM_PENDING to the holder's port alone, and still pending without renewing the stamp. -/
def Obligations.ClaimFollowsTheRecord : Prop :=
  ∀ (s : State) (p : Port) (b : List Byte), s.takes p b →
    (b ≠ [] → exec (.claim p b) s = .next (s.refused p .claim .badLength)) ∧
    (b = [] →
      (s.authority.holder = some p → exec (.claim p b) s = s.replies p .claim .held [] (s.framed p)) ∧
      (s.authority.holder = none → exec (.claim p b) s = s.replies p .claim .ok []
        (({ s.framed p with authority := { holder := some p, claim := none } } : State).raises
          [(.authorityChange, partyCode (some p), 0)])) ∧
      (s.authority.holder = some (other p) → s.authority.claim = none →
        exec (.claim p b) s = s.replies p .claim .pending []
          (({ s.framed p with authority := { s.authority with claim := some { claimant := p, stamp := s.now } } } :
            State).raiseTo (other p) .claimPending (partyCode (some p)) s.site.yieldTimeout)) ∧
      (∀ stamp, s.authority.holder = some (other p) → s.authority.claim = some { claimant := p, stamp := stamp } →
        exec (.claim p b) s = s.replies p .claim .pending [] (s.framed p)))

/-- YIELD and DECLINE (R161), row by row: NOT_HOLDER, NO_CLAIM, and from the holder the claimant made holder with
AUTHORITY_CHANGE, reason YIELD, or the claim cleared with CLAIM_DECLINED to the claimant's port alone. -/
def Obligations.YieldAndDeclineAnswerTheClaim : Prop :=
  ∀ (s : State) (p : Port) (b : List Byte), s.takes p b →
    (b ≠ [] → exec (.yield p b) s = .next (s.refused p .yield .badLength) ∧
      exec (.decline p b) s = .next (s.refused p .decline .badLength)) ∧
    (b = [] → s.authority.holder ≠ some p → exec (.yield p b) s = .next (s.refused p .yield .notHolder) ∧
      exec (.decline p b) s = .next (s.refused p .decline .notHolder)) ∧
    (b = [] → s.authority.holder = some p → s.authority.claim = none →
      exec (.yield p b) s = s.replies p .yield .noClaim [] (s.framed p) ∧
      exec (.decline p b) s = s.replies p .decline .noClaim [] (s.framed p)) ∧
    (∀ c, b = [] → s.authority.holder = some p → s.authority.claim = some c →
      exec (.yield p b) s = s.replies p .yield .ok []
        (({ s.framed p with authority := { holder := some c.claimant, claim := none } } : State).raises
          [(.authorityChange, partyCode (some c.claimant), 1 + 256 * partyCode (some p))]) ∧
      exec (.decline p b) s = s.replies p .decline .ok []
        (({ s.framed p with authority := { holder := some p, claim := none } } : State).raiseTo c.claimant
          .claimDeclined (partyCode (some p)) 0))

/-- The timed tests of the Authority Unit (R162, R168): at each whole second a claim that has waited the yield timeout
is put to the test that makes the claimant holder, reason TIMEOUT, and a FULL lock with an expiry that has run is put to
the test that empties it, reason EXPIRY; before its time neither test changes anything, and a lock of expiry 0 never
expires. That an idle step queues the tests is how the model passes time (its choice, logs 1 and 2). -/
def Obligations.ClaimsAndLocksRunOut : Prop :=
  (∀ s : State, s.pending = [] → (s.now + 1) % 100 = 0 → ∃ t, step s = .next t ∧
    (∀ c, s.authority.claim = some c → c.stamp + 100 * s.site.yieldTimeout ≤ s.now + 1 → .claimTimeout ∈ t.pending) ∧
    (∀ (i : Fin 48) (k : Lock), s.lock i = some k → 0 < k.expiry → k.placed + 6000 * k.expiry ≤ s.now + 1 →
      .overrideExpiry i ∈ t.pending)) ∧
  (∀ s : State, s.authority.claim = none → exec .claimTimeout s = .next s) ∧
  (∀ (s : State) (c : Claim), s.authority.claim = some c →
    exec .claimTimeout s =
      if c.stamp + 100 * s.site.yieldTimeout ≤ s.now then
        .next (({ s with authority := { holder := some c.claimant, claim := none } } : State).raises
          [(.authorityChange, partyCode (some c.claimant), 2 + 256 * partyCode s.authority.holder)])
      else .next s) ∧
  (∀ (s : State) (i : Fin 48), s.lock i = none → exec (.overrideExpiry i) s = .next s) ∧
  (∀ (s : State) (i : Fin 48) (k : Lock), s.lock i = some k →
    exec (.overrideExpiry i) s =
      if 0 < k.expiry ∧ k.placed + 6000 * k.expiry ≤ s.now then
        .next (({ s with locks := s.locks.set i none } : State).raises
          [(.overrideReleased, i, 1 + 256 * partyCode (some k.owner))])
      else .next s)

/-- OVERRIDE SET (R166), row by row in the order of its table: the refusals, LOCKED with the owner's party code, and the
lock placed or replaced with its value and expiry clamped, owned by the sender and stamped now, without an event. -/
def Obligations.OverrideSetPlacesTheLock : Prop :=
  ∀ (s : State) (p : Port) (b : List Byte), s.takes p b →
    (b.length ≠ 6 → exec (.overrideSet p b) s = .next (s.refused p .overrideSet .badLength)) ∧
    (∀ z f v eh el flag : Byte, b = [z, f, v, eh, el, flag] →
      let i := 3 * z.toNat + f.toNat
      let top := if f.toNat = 0 then 100 else 3
      let expiry := 256 * eh.toNat + el.toNat
      let new : Lock := { owner := p, value := min top v.toNat, expiry := min 480 expiry, placed := s.now,
                          atHandover := flag.toNat = 1 }
      ((15 < z.toNat ∨ 2 < f.toNat ∨ 1 < flag.toNat) →
        exec (.overrideSet p b) s = .next (s.refused p .overrideSet .badReference)) ∧
      (z.toNat ≤ 15 → f.toNat ≤ 2 → flag.toNat ≤ 1 →
        (s.enabled z.toNat = false → exec (.overrideSet p b) s = .next (s.refused p .overrideSet .badReference)) ∧
        (s.enabled z.toNat = true → s.runMode = .stopped →
          exec (.overrideSet p b) s = .next (s.refused p .overrideSet .notRunning)) ∧
        (s.enabled z.toNat = true → s.runMode = .running →
          (∀ k, s.lock i = some k → k.owner ≠ p →
            exec (.overrideSet p b) s =
              s.replies p .overrideSet .locked [BitVec.ofNat 8 (partyCode (some k.owner))] (s.framed p)) ∧
          ((∀ k, s.lock i = some k → k.owner = p) →
            exec (.overrideSet p b) s =
              s.replies p .overrideSet (if top < v.toNat ∨ 480 < expiry then .clamped else .ok)
                ([BitVec.ofNat 8 (partyCode (some p)), BitVec.ofNat 8 new.value] ++ u16 new.expiry ++ [flag])
                { s.framed p with locks := s.locks.set i (some new) }))))

/-- OVERRIDE RELEASE and OVERRIDE BREAK (R167), row by row: the refusals, a lock emptied by its owner without an event,
LOCKED to the other party, and a lock emptied by the holder of authority whatever its owner, with OVERRIDE_RELEASED. -/
def Obligations.ReleaseAndBreakEmptyTheLock : Prop :=
  ∀ (s : State) (p : Port) (b : List Byte), s.takes p b →
    (b.length ≠ 2 → exec (.overrideRelease p b) s = .next (s.refused p .overrideRelease .badLength) ∧
      (s.authority.holder = some p → exec (.overrideBreak p b) s = .next (s.refused p .overrideBreak .badLength))) ∧
    (s.authority.holder ≠ some p → exec (.overrideBreak p b) s = .next (s.refused p .overrideBreak .notHolder)) ∧
    (∀ z f : Byte, b = [z, f] →
      let i := 3 * z.toNat + f.toNat
      ((15 < z.toNat ∨ 2 < f.toNat) →
        exec (.overrideRelease p b) s = .next (s.refused p .overrideRelease .badReference) ∧
        (s.authority.holder = some p →
          exec (.overrideBreak p b) s = .next (s.refused p .overrideBreak .badReference))) ∧
      (z.toNat ≤ 15 → f.toNat ≤ 2 → s.lock i = none →
        exec (.overrideRelease p b) s = s.replies p .overrideRelease .ok [] (s.framed p) ∧
        (s.authority.holder = some p →
          exec (.overrideBreak p b) s = s.replies p .overrideBreak .ok [] (s.framed p))) ∧
      (∀ k, z.toNat ≤ 15 → f.toNat ≤ 2 → s.lock i = some k →
        (k.owner = p → exec (.overrideRelease p b) s =
          s.replies p .overrideRelease .ok [] { s.framed p with locks := s.locks.set i none }) ∧
        (k.owner ≠ p → exec (.overrideRelease p b) s =
          s.replies p .overrideRelease .locked [BitVec.ofNat 8 (partyCode (some k.owner))] (s.framed p)) ∧
        (s.authority.holder = some p → exec (.overrideBreak p b) s =
          s.replies p .overrideBreak .ok []
            (({ s.framed p with locks := s.locks.set i none } : State).raises
              [(.overrideReleased, i, 5 + 256 * partyCode (some k.owner))]))))

/-! ### Configuration records -/

/-- CONFIG READ returns the class, the item, its record and the class's live state (R175), refusing a class or item that
does not exist. The records are those of the configuration tables, byte by byte (codes of two-valued fields in their
tables' order, log 14); live are a zone's outputs, those whose reference is the zone (R48; log 41), a channel's code,
value and quality (R33), and an output's drive, grant, forcing, hold and its seconds, commanded value, pattern and test
seconds (R158; that a rest of a second counts as one and that the seconds of a hold that is NONE read 0 are the model's
choices, log 35). A reference of kind none reads back with number 0 (log 22). A record's bytes, written back, are read
as the same record for every record in its ranges. -/
def Obligations.ConfigReadReturnsWhatAWriteTakes : Prop :=
  (∀ (s : State) (p : Port) (cls item : Byte), (s.port p).sending = false →
    let i := item.toNat
    let flag := fun b : Bool => (if b = true then 1 else 0 : Byte)
    let rest := fun t : Nat => u16 ((t - s.now + 99) / 100)
    let ok := fun data : List Byte =>
      exec (.configRead p [cls, item]) s =
        .next (s.answered p RequestKind.configRead.code .ok (cls :: item :: data) (s.framed p))
    ((5 < cls.toNat ∨ classItems cls.toNat ≤ i) →
      exec (.configRead p [cls, item]) s = .next (s.refused p .configRead .badReference)) ∧
    (cls = 0 → i = 0 → ok s.settings.site.bytes) ∧
    (cls = 1 → i < 16 →
      let named := (List.range 40).filter fun o => match (s.outCfg o).ref with | .zone z _ => z == i | _ => false
      ok ((s.zoneCfg i).bytes ++ BitVec.ofNat 8 named.length :: named.map fun o => BitVec.ofNat 8 o)) ∧
    (cls = 2 → i < 48 → ok (s.doorCfg i).bytes) ∧
    (cls = 3 → i < 64 → ok (s.lineCfg i).bytes) ∧
    (cls = 4 → i < 24 →
      let none : Bool := decide ((s.chanCfg i).role = .unused)
      ok ((s.chanCfg i).bytes ++ u16 (s.chan i).code ++ s16 (if none = true then 0 else (s.chan i).value) ++
        [if none = true then 2 else match (s.chan i).quality with | .good => 0 | .held => 1 | .lost => 2])) ∧
    (cls = 5 → i < 40 →
      let r := s.out i
      ok ((s.outCfg i).bytes ++
        [flag (!s.pinOn i), match r.grant with | .none => 0 | .granted => 1 | .tier0 => 2,
         match r.forced with | .none => 0 | .fire => 1 | .stop => 2,
         match r.hold with | .none => 0 | .minOn => 1 | .minOff => 2] ++
        (match r.hold with
          | .none => u16 0
          | .minOn => rest (r.lastOn.getD 0 + 100 * (s.outCfg i).minOn)
          | .minOff => rest (r.lastOff.getD 0 + 100 * (s.outCfg i).minOff)) ++
        [flag r.commanded, match s.pattern i with | .none => 0 | .slow => 1 | .fast => 2,
         match r.testEnd with | none => 0xFF | some e => BitVec.ofNat 8 ((e - s.now + 99) / 100)]))) ∧
  (∀ (s : State) (cls item : Nat), cls ≤ 5 → (s.recordBytes cls item).length = recordLength cls) ∧
  (∀ c : LineConfig, c.bytes = [BitVec.ofNat 8 c.role.code, if c.enable = true then 1 else 0, BitVec.ofNat 8 c.zone,
      BitVec.ofNat 8 c.polarity.code, BitVec.ofNat 8 c.trigger.code, BitVec.ofNat 8 c.debounce,
      if c.masked = true then 0 else 1] ∧
    (c.zone ≤ 15 → c.debounce ≤ 255 → LineConfig.ofBytes c.bytes = some c)) ∧
  (∀ c : DoorConfig, c.bytes = [BitVec.ofNat 8 (c.line.getD 255), BitVec.ofNat 8 c.zone] ∧
    ((∀ l ∈ c.line, l ≤ 63) → c.zone ≤ 15 → DoorConfig.ofBytes c.bytes = c)) ∧
  (∀ c : ChannelConfig, c.bytes = [BitVec.ofNat 8 c.role.code, BitVec.ofNat 8 c.zone] ++ u16 c.codeLo ++ s16 c.valueLo ++
      u16 c.codeHi ++ s16 c.valueHi ++ u16 c.hold ∧
    (c.zone ≤ 15 → c.codeLo ≤ 4095 → c.codeHi ≤ 4095 → c.clamped = c →
      -32768 ≤ c.valueLo → c.valueLo ≤ 32767 → -32768 ≤ c.valueHi → c.valueHi ≤ 32767 →
      ChannelConfig.ofBytes c.bytes = some c)) ∧
  (∀ c : ZoneConfig, c.bytes = [if c.enabled = true then 1 else 0, BitVec.ofNat 8 (c.dimming.getD 255),
      BitVec.ofNat 8 c.floor, BitVec.ofNat 8 c.doorLevel, BitVec.ofNat 8 c.occHold] ++ u16 c.graceTime ++
      [BitVec.ofNat 8 c.dayFactor] ++ u16 c.heldOpen ++ [BitVec.ofNat 8 c.heatBand] ++ u16 c.debtStep ++
      [BitVec.ofNat 8 c.debtDecay] ++ u16 c.rated ++ [BitVec.ofNat 8 c.rampRate, BitVec.ofNat 8 c.trimAllow,
      BitVec.ofNat 8 c.trimTier] ++ u16 c.idleSetpoint ++ [BitVec.ofNat 8 c.idleLevel] ∧
    ((∀ k ∈ c.dimming, k ≤ 15) → c.clamped = c → ZoneConfig.ofBytes c.bytes = some c)) ∧
  (∀ c old : OutputConfig, c.bytes = [BitVec.ofNat 8 c.function.code] ++
      (match c.ref with
        | .nothing => [0, 0, 0]
        | .zone z u => [1, BitVec.ofNat 8 z, BitVec.ofNat 8 u]
        | .door d => [2, BitVec.ofNat 8 d, 0]) ++
      u16 c.watts ++ [BitVec.ofNat 8 c.tier] ++ u16 c.minOn ++ u16 c.minOff ∧
    (c.refFits = true → c.clamped = c → OutputConfig.ofBytes old c.bytes = some c)) ∧
  (∀ c : SiteConfig, c.bytes = s16 c.designOutdoor ++ s16 c.clockTrim ++ [BitVec.ofNat 8 c.fallback,
      BitVec.ofNat 8 c.lead] ++ u16 c.dayFull ++ [BitVec.ofNat 8 c.stoppedLevel] ++ u16 c.l1 ++ u16 c.l2 ++ u16 c.l3 ++
      u16 c.la ++ u16 c.downDelay ++ [BitVec.ofNat 8 c.creditDoors, BitVec.ofNat 8 c.lostStage,
      if c.fireFan = .exhaust then 1 else 0] ++ s16 c.purgeCold ++ u16 c.pulseWeight ++ u16 c.windowLen ++
      [BitVec.ofNat 8 c.period] ++ u16 c.ceiling ++ [BitVec.ofNat 8 c.shedPct] ++ u16 c.meterSilence ++
      u16 c.assumedBase ++ u16 c.yieldTimeout ++ u16 c.supSilence ++ u16 c.panSilence ++ [BitVec.ofNat 8 c.station,
      if c.autostart = true then 1 else 0] ∧
    (c.refsOk = true → c.clamped = c → SiteConfig.ofBytes c.bytes = some c))

/-- The refusals of CONFIG WRITE in their order (R175): a payload without class and item, a class above 5, a record of
the wrong length, an item out of range; then the references of each class (R1, R11, R20, R34, R60, R129, R147, R173) and
a record whose codes are malformed (log 13); then, while RUNNING, a write that changes a structural field, refused whole
with NOT_STOPPED; then, for the SITE record while RUNNING, an EMPTY fallback context (R60) and thresholds that do not
rise (R117). The structural fields of the SITE record are compared after clamping (log 15). -/
def Obligations.ConfigWriteIsRefusedInOrder : Prop :=
  ∀ (s : State) (p : Port) (b : List Byte) (c : Instr),
    c ∈ [Instr.configWriteSite p b, .configWriteZone p b, .configWriteDoor p b, .configWriteLine p b,
      .configWriteChannel p b, .configWriteOutput p b] →
    s.takes p b → s.authority.holder = some p →
    let no := fun st : Status => exec c s = .next (s.refused p .configWrite st)
    (b.length < 2 → no .badLength) ∧
    (∀ cls item rec, b = cls :: item :: rec →
      let n := item.toNat
      (5 < cls.toNat → no .badReference) ∧
      (cls.toNat ≤ 5 → rec.length ≠ recordLength cls.toNat → no .badLength) ∧
      (cls.toNat ≤ 5 → rec.length = recordLength cls.toNat → classItems cls.toNat ≤ n → no .badReference) ∧
      (cls.toNat ≤ 5 → rec.length = recordLength cls.toNat → n < classItems cls.toNat →
        (cls = 0 → SiteConfig.ofBytes rec = none → no .badReference) ∧
        (∀ x, SiteConfig.ofBytes rec = some x → cls = 0 →
          let refs := x.fallback ≤ 15 ∧ x.period ∈ [5, 10, 15, 20, 30] ∧ 1 ≤ x.station ∧ x.station ≤ 31
          let same := x.clamped.clockTrim = s.site.clockTrim ∧ x.clamped.lead = s.site.lead ∧
            x.clamped.pulseWeight = s.site.pulseWeight ∧ x.clamped.windowLen = s.site.windowLen ∧
            x.clamped.period = s.site.period
          (¬refs → no .badReference) ∧
          (refs → s.runMode = .running → ¬same → no .notStopped) ∧
          (refs → s.runMode = .running → same → s.context x.fallback = none → no .emptyContext) ∧
          (refs → s.runMode = .running → same → s.context x.fallback ≠ none →
            ¬(x.clamped.l1 < x.clamped.l2 ∧ x.clamped.l2 < x.clamped.l3 ∧ x.clamped.l3 < x.clamped.la) →
            no .badReference)) ∧
        (cls = 1 → ZoneConfig.ofBytes rec = none → no .badReference) ∧
        (∀ x, ZoneConfig.ofBytes rec = some x → cls = 1 →
          let refs := ∀ k ∈ x.dimming, k ≤ 15 ∧ ∀ y < 16, y ≠ n → (s.zoneCfg y).dimming ≠ some k
          (¬refs → no .badReference) ∧
          (refs → s.runMode = .running → (x.enabled ≠ s.enabled n ∨ x.dimming ≠ (s.zoneCfg n).dimming) →
            no .notStopped)) ∧
        (∀ x, DoorConfig.ofBytes rec = x → cls = 2 →
          let refs := x.zone ≤ 15 ∧ ∀ l ∈ x.line, l ≤ 63 ∧ ∀ e < 48, e ≠ n → (s.doorCfg e).line ≠ some l
          (¬refs → no .badReference) ∧
          (refs → s.runMode = .running → x ≠ s.doorCfg n → no .notStopped)) ∧
        (cls = 3 → LineConfig.ofBytes rec = none → no .badReference) ∧
        (∀ x, LineConfig.ofBytes rec = some x → cls = 3 →
          (15 < x.zone → no .badReference) ∧
          (x.zone ≤ 15 → s.runMode = .running → (x.role ≠ (s.lineCfg n).role ∨ x.enable ≠ (s.lineCfg n).enable ∨
            x.zone ≠ (s.lineCfg n).zone) → no .notStopped)) ∧
        (cls = 4 → ChannelConfig.ofBytes rec = none → no .badReference) ∧
        (∀ x, ChannelConfig.ofBytes rec = some x → cls = 4 →
          let others := fun f : ChannelConfig → Bool => ((List.range 24).filter fun m =>
            m != n && (s.chanCfg m).role == x.role && f (s.chanCfg m)).length
          let refs := x.zone ≤ 15 ∧ x.codeLo ≤ 4095 ∧ x.codeHi ≤ 4095 ∧
            (x.role = .zoneTemp → others (fun y => y.zone == x.zone) < 2) ∧
            (x.role = .air → others (fun y => y.zone == x.zone) = 0) ∧
            (x.role = .outdoorTemp ∨ x.role = .daylight → others (fun _ => true) = 0)
          (¬refs → no .badReference) ∧
          (refs → s.runMode = .running → { x with hold := (s.chanCfg n).hold } ≠ s.chanCfg n → no .notStopped)) ∧
        (cls = 5 → OutputConfig.ofBytes (s.outCfg n) rec = none → no .badReference) ∧
        (∀ x, OutputConfig.ofBytes (s.outCfg n) rec = some x → cls = 5 →
          let unit := fun z u => z ≤ 15 ∧ (x.function = .heater ∨ x.function = .fan) ∧ 1 ≤ u ∧ u ≤ 3
          let whole := fun z u => z ≤ 15 ∧ (x.function = .lightContactor ∨ x.function = .beacon) ∧ u = 0
          let refs := (∀ z u, x.ref = .zone z u → unit z u ∨ whole z u) ∧
            (∀ d, x.ref = .door d → d ≤ 47 ∧ (x.function = .curtain ∨ x.function = .beacon)) ∧
            (x.ref = .nothing → x.function = .spare) ∧ (x.function ∈ [.heater, .fan, .curtain] →
            ∀ m < 40, m ≠ n → (s.outCfg m).function = x.function → (s.outCfg m).ref ≠ x.ref)
          (¬refs → no .badReference) ∧
          (refs → s.runMode = .running → (x.function ≠ (s.outCfg n).function ∨ x.ref ≠ (s.outCfg n).ref) →
            no .notStopped))))

/-- CONFIG WRITE of a ZONE and of the SITE record taken: the record is stored with every quantity at the nearer end of
its range, a window length besides truncated to a multiple of 60 s and a meter silence time of 1 to 59 s taken as 60,
CLAMPED telling of it (R20, R34, R50, R61, R87, R117, R129, R159, R172); a raised egress floor lifts the present level
of an OCCUPIED or GRACE zone at once while RUNNING (R87); and while STOPPED a zone that is enabled or disabled, and
every enabled zone at a new stopped light level outside fire mode, takes its level at once (R99). A change of the fire
fan action while the latch is set acts at once (R126, R151): OFF forces every FAN output off with no stage requested;
EXHAUST takes forced FIRE from the FAN outputs and, while RUNNING, requests every fan stage of every enabled zone at
tier 0, granted as it arises; that OFF stamps and begins MIN_OFF on a FAN output already OFF is the model's reading (log
20). Nothing else changes. The structural fields of the SITE record are compared after clamping (the model's reading,
log 15). -/
def Obligations.ZoneAndSiteWritesAreTaken : Prop :=
  (∀ c : ZoneConfig, c.clamped = { c with
      floor := min 50 c.floor, doorLevel := min 100 c.doorLevel, occHold := max 1 (min 60 c.occHold)
      graceTime := min 600 c.graceTime, dayFactor := min 100 c.dayFactor, heldOpen := max 60 (min 3600 c.heldOpen)
      heatBand := max 5 (min 50 c.heatBand), debtStep := max 30 (min 600 c.debtStep)
      debtDecay := max 1 (min 10 c.debtDecay), rated := min 65000 c.rated, rampRate := max 1 (min 100 c.rampRate)
      trimAllow := min 50 c.trimAllow, trimTier := max 1 (min 3 c.trimTier)
      idleSetpoint := max 50 (min 280 c.idleSetpoint), idleLevel := min 100 c.idleLevel }) ∧
  (∀ c : SiteConfig,
    let w := max 300 (min 3600 c.windowLen)
    c.clamped = { c with
      designOutdoor := max (-400) (min 600 c.designOutdoor), clockTrim := max (-200) (min 200 c.clockTrim)
      lead := max 1 (min 4 c.lead), dayFull := max 100 (min 20000 c.dayFull), stoppedLevel := min 100 c.stoppedLevel
      l1 := max 1 (min 1000 c.l1), l2 := max 1 (min 1000 c.l2), l3 := max 1 (min 1000 c.l3)
      la := max 1 (min 1000 c.la), downDelay := min 600 c.downDelay, creditDoors := min 16 c.creditDoors
      lostStage := min 3 c.lostStage, purgeCold := max (-300) (min 100 c.purgeCold)
      pulseWeight := max 1 (min 1000 c.pulseWeight), windowLen := w - w % 60
      ceiling := max 10 (min 6000 c.ceiling), shedPct := min 80 c.shedPct
      meterSilence := if c.meterSilence = 0 then 0 else max 60 (min 3600 c.meterSilence)
      assumedBase := min 5000 c.assumedBase, yieldTimeout := max 5 (min 300 c.yieldTimeout)
      supSilence := max 10 (min 600 c.supSilence), panSilence := max 10 (min 600 c.panSilence) }) ∧
  (∀ (s : State) (p : Port) (z : Byte) (rec : List Byte) (c : ZoneConfig),
    s.Sized → (s.port p).sending = false → s.authority.holder = some p → z.toNat < 16 → rec.length = 22 →
    ZoneConfig.ofBytes rec = some c → (∀ k ∈ c.dimming, k ≤ 15) →
    (c.dimming = none ∨ ∀ y < 16, y ≠ z.toNat → (s.zoneCfg y).dimming ≠ c.dimming) →
    (s.runMode = .running → c.enabled = s.enabled z.toNat ∧ c.dimming = (s.zoneCfg z.toNat).dimming) →
    exec (.configWriteZone p (1 :: z :: rec)) s =
      s.replies p .configWrite (if c.clamped = c then .ok else .clamped) []
        { s.framed p with
            settings := { s.settings with zones := s.settings.zones.set z.toNat c.clamped }
            zones := s.zones.modify z.toNat fun r =>
              if s.runMode = .running then
                if (s.zoneCfg z.toNat).floor < c.clamped.floor ∧ c.enabled = true ∧ r.occ.state ≠ .vacant then
                  { r with light := { r.light with present := max r.light.present c.clamped.floor } }
                else r
              else if c.enabled = s.enabled z.toNat then r
              else
                let level := if c.enabled = true then (if s.fire = true then 100 else s.site.stoppedLevel) else 0
                { r with light := stoppedLight c.clamped level } }) ∧
  (∀ (s : State) (p : Port) (rec : List Byte) (c : SiteConfig),
    s.Sized → (s.port p).sending = false → s.authority.holder = some p → rec.length = 44 →
    SiteConfig.ofBytes rec = some c → c.fallback ≤ 15 → c.period ∈ [5, 10, 15, 20, 30] → 1 ≤ c.station → c.station ≤ 31 →
    (s.runMode = .running → c.clamped.clockTrim = s.site.clockTrim ∧ c.clamped.lead = s.site.lead ∧
      c.clamped.pulseWeight = s.site.pulseWeight ∧ c.clamped.windowLen = s.site.windowLen ∧
      c.clamped.period = s.site.period ∧ (s.context c.fallback).isSome = true ∧ c.clamped.l1 < c.clamped.l2 ∧
      c.clamped.l2 < c.clamped.l3 ∧ c.clamped.l3 < c.clamped.la) →
    (s.fire = false ∨ c.fireFan = s.site.fireFan) →
    exec (.configWriteSite p (0 :: 0 :: rec)) s =
      s.replies p .configWrite (if c.clamped = c then .ok else .clamped) []
        { s.framed p with
            settings := { s.settings with site := c.clamped }
            zones := s.zones.mapIdx fun z r =>
              if s.runMode = .stopped ∧ s.fire = false ∧ s.enabled z = true then
                { r with light := { r.light with present := c.clamped.stoppedLevel, granted := c.clamped.stoppedLevel } }
              else r }) ∧
  (∀ (s : State) (p : Port) (rec : List Byte) (c : SiteConfig),
    s.Sized → (s.port p).sending = false → s.authority.holder = some p → rec.length = 44 →
    SiteConfig.ofBytes rec = some c → c.fallback ≤ 15 → c.period ∈ [5, 10, 15, 20, 30] → 1 ≤ c.station → c.station ≤ 31 →
    (s.runMode = .running → c.clamped.clockTrim = s.site.clockTrim ∧ c.clamped.lead = s.site.lead ∧
      c.clamped.pulseWeight = s.site.pulseWeight ∧ c.clamped.windowLen = s.site.windowLen ∧
      c.clamped.period = s.site.period ∧ (s.context c.fallback).isSome = true ∧ c.clamped.l1 < c.clamped.l2 ∧
      c.clamped.l2 < c.clamped.l3 ∧ c.clamped.l3 < c.clamped.la) →
    s.fire = true → c.fireFan ≠ s.site.fireFan → ∃ t,
    let fan := fun o => (s.outCfg o).function = .fan
    let stage := fun z u => s.enabled z = true ∧ 1 ≤ u ∧ u ≤ s.fanStages z
    exec (.configWriteSite p (0 :: 0 :: rec)) s =
      s.replies p .configWrite (if c.clamped = c then .ok else .clamped) [] t ∧
    t = { s.framed p with settings := { s.settings with site := c.clamped }, zones := t.zones, outputs := t.outputs } ∧
    (∀ o < 40, ¬fan o → t.out o = s.out o) ∧
    (c.fireFan = .off → t.zones = (s.zones.map fun r => { r with vent := { r.vent with stages := 0 } }) ∧
      ∀ o < 40, fan o → t.out o = { s.out o with
        drive := false, lastOff := some s.now, hold := if (s.outCfg o).minOff = 0 then .none else .minOff
        forced := if (s.out o).forced = .stop then .stop else .fire, request := none, grant := .none }) ∧
    (c.fireFan = .exhaust →
      let free := fun o : Nat => if (s.out o).forced = .fire then Forced.none else (s.out o).forced
      (∀ z < 16, t.zone z = if s.runMode = .running ∧ s.enabled z = true then
        { s.zone z with vent := { (s.zone z).vent with stages := s.fanStages z } } else s.zone z) ∧
      (∀ o < 40, fan o → (s.runMode = .stopped ∨ ∀ z u, (s.outCfg o).ref = .zone z u → ¬stage z u) →
        t.out o = { s.out o with forced := free o }) ∧
      (∀ o < 40, ∀ z u, (s.outCfg o).ref = .zone z u → fan o → s.runMode = .running → stage z u →
        t.out o = OutputRec.asked s.now (s.outCfg o) (some 0) { s.out o with forced := free o })))

/-- CONFIG WRITE of a DOOR and of a LINE record taken. A door follows its conditions and its line at once (R12):
DISABLED without an enabled DOOR line; otherwise CLOSED, or OPEN with the opening counted where the line is ACTIVE and
the door was not open; a HELD_OPEN door that closes raises DOOR_CLOSED_AFTER_HELD. A line turned off reads INACTIVE at
once, its timer and pending flag cleared, and the doors on it are DISABLED without an event (R1, R12). That a LINE write
is held by the settings at once while the line, and its doors' conditions, go by the record in force until the next
sample, and that a line turned off loses its enable alone before it, is the model's reading (log 16). -/
def Obligations.DoorAndLineWritesAreTaken : Prop :=
  (∀ (s : State) (p : Port) (d : Byte) (rec : List Byte) (c : DoorConfig),
    s.Sized → (s.port p).sending = false → s.authority.holder = some p → d.toNat < 48 → rec.length = 2 →
    DoorConfig.ofBytes rec = c → (∀ l ∈ c.line, l ≤ 63 ∧ ∀ e < 48, e ≠ d.toNat → (s.doorCfg e).line ≠ some l) →
    c.zone ≤ 15 → (s.runMode = .running → c = s.doorCfg d.toNat) →
    let lineOk := c.line.any fun l => (s.line l).inForce.enable && (s.line l).inForce.role == .door
    let active := c.line.any fun l => (s.line l).active
    let r := s.door d.toNat
    exec (.configWriteDoor p (2 :: d :: rec)) s =
      s.replies p .configWrite .ok []
        { (s.framed p).raises (if r.state = .heldOpen ∧ lineOk = true ∧ active = false then
              [(.doorClosedAfterHeld, d.toNat, min 65535 ((s.now - r.since) / 100))] else []) with
            settings := { s.settings with doors := s.settings.doors.set d.toNat c }
            doors := s.doors.set d.toNat
              (if lineOk = false then { r with state := .disabled }
               else if active = false then { r with state := .closed }
               else if r.state = .opened ∨ r.state = .heldOpen then r
               else { r with state := .opened, since := s.now, opens := min 65535 (r.opens + 1) }) }) ∧
  (∀ (s : State) (p : Port) (l : Byte) (rec : List Byte) (c : LineConfig),
    s.Sized → (s.port p).sending = false → s.authority.holder = some p → l.toNat < 64 → rec.length = 7 →
    LineConfig.ofBytes rec = some c → c.zone ≤ 15 →
    (s.runMode = .running → c.role = (s.lineCfg l.toNat).role ∧ c.enable = (s.lineCfg l.toNat).enable ∧
      c.zone = (s.lineCfg l.toNat).zone) →
    let off := c.enable = false ∧ (s.line l.toNat).inForce.enable = true
    exec (.configWriteLine p (3 :: l :: rec)) s =
      s.replies p .configWrite .ok []
        { s.framed p with
            settings := { s.settings with lines := s.settings.lines.set l.toNat c }
            lines := if off then s.lines.modify l.toNat fun r =>
                { r with active := false, timer := none, pending := false, inForce := { r.inForce with enable := false } }
              else s.lines
            doors := s.doors.mapIdx fun d r =>
              if off ∧ (s.doorCfg d).line = some l.toNat then { r with state := .disabled } else r })

/-- CONFIG WRITE of a CHANNEL and of an OUTPUT record taken (R20, R21, R147): the record is stored clamped, a channel's
hold time to 10 to 600 s, an output's watts to 65000, its tier to 1 to 3 and its hold times to 900 s; a change of role,
zone or calibration makes the channel's next sample an initial take, and a channel whose role becomes NONE at once keeps
its code and nothing else; that a channel that keeps a role stands as it is until that sample is the model's reading
(log 18). A change of function or reference ends the output's test, a load going OFF with its stamp and the old record's
MIN_OFF (R157), and sets its commanded value OFF; that an output that becomes a load is then forced STOP, and that
nothing else of the record changes, is the model's reading (log 36). Without such a change the live record stays. A tier
of FFh or a hold time of FFFFh in an OUTPUT record is not given: a write that changes the function takes the new
function's value by the table, and one that keeps it the value that stands. -/
def Obligations.ChannelAndOutputWritesAreTaken : Prop :=
  (∀ c : ChannelConfig, c.clamped = { c with hold := max 10 (min 600 c.hold) }) ∧
  (∀ c : OutputConfig, c.clamped = { c with
      watts := min 65000 c.watts, tier := max 1 (min 3 c.tier), minOn := min 900 c.minOn, minOff := min 900 c.minOff }) ∧
  (∀ (s : State) (p : Port) (n : Byte) (rec : List Byte) (c : ChannelConfig),
    (s.port p).sending = false → s.authority.holder = some p → n.toNat < 24 → rec.length = 12 →
    ChannelConfig.ofBytes rec = some c → s.channelRefsOk n.toNat c = true →
    (s.runMode = .running → { c with hold := (s.chanCfg n.toNat).hold } = s.chanCfg n.toNat) →
    exec (.configWriteChannel p (4 :: n :: rec)) s =
      s.replies p .configWrite (if c.clamped = c then .ok else .clamped) []
        { s.framed p with
            settings := { s.settings with channels := s.settings.channels.set n.toNat c.clamped }
            channels := if { c with hold := (s.chanCfg n.toNat).hold } = s.chanCfg n.toNat then s.channels
              else s.channels.modify n.toNat fun r =>
                if c.role = .unused then { r with history := [], value := 0, quality := .lost, fresh := true }
                else { r with fresh := true } }) ∧
  (∀ (s : State) (p : Port) (o : Byte) (rec : List Byte) (c : OutputConfig),
    s.Sized → (s.port p).sending = false → s.authority.holder = some p → o.toNat < 40 → rec.length = 11 →
    OutputConfig.ofBytes (s.outCfg o.toNat) rec = some c → s.outputRefsOk o.toNat c = true →
    (s.runMode = .running → c.function = (s.outCfg o.toNat).function ∧ c.ref = (s.outCfg o.toNat).ref) →
    ∃ t, exec (.configWriteOutput p (5 :: o :: rec)) s =
        s.replies p .configWrite (if c.clamped = c then .ok else .clamped) [] t ∧
      t = { s.framed p with settings := { s.settings with outputs := s.settings.outputs.set o.toNat c.clamped },
                            outputs := s.outputs.set o.toNat (t.out o.toNat) } ∧
      (c.function = (s.outCfg o.toNat).function ∧ c.ref = (s.outCfg o.toNat).ref → t.out o.toNat = s.out o.toNat) ∧
      (c.function ≠ (s.outCfg o.toNat).function ∨ c.ref ≠ (s.outCfg o.toNat).ref →
        t.out o.toNat =
          { (s.out o.toNat).untested s.now (s.outCfg o.toNat) with
              commanded := false
              forced := if c.function = .heater ∨ c.function = .curtain ∨ c.function = .fan then Forced.stop
                else (s.out o.toNat).forced })) ∧
  (∀ (old c : OutputConfig) (f k n u wh wl tier onH onL offH offL : Byte),
    OutputConfig.ofBytes old [f, k, n, u, wh, wl, tier, onH, onL, offH, offL] = some c →
    let kept := c.function = old.function
    let on := 256 * onH.toNat + onL.toNat
    let off := 256 * offH.toNat + offL.toNat
    f.toNat = c.function.code ∧ c.watts = 256 * wh.toNat + wl.toNat ∧
    c.tier = (if tier ≠ 0xFF then tier.toNat else if kept then old.tier
      else match c.function with | .heater => 2 | _ => 1) ∧
    c.minOn = (if on ≠ 0xFFFF then on else if kept then old.minOn
      else match c.function with | .heater => 120 | .fan => 30 | _ => 0) ∧
    c.minOff = (if off ≠ 0xFFFF then off else if kept then old.minOff
      else match c.function with | .heater => 180 | .fan => 30 | _ => 0))

/-! ### Contexts and the calendar -/

/-- CONTEXT READ and CALENDAR READ (R59, R53), whole: their refusals, their replies field by field, and no state
changed. -/
def Obligations.ContextAndCalendarAreReadBack : Prop :=
  ∀ (s : State) (p : Port) (b : List Byte), s.takes p b →
    (b.length ≠ 1 → exec (.contextRead p b) s = .next (s.refused p .contextRead .badLength)) ∧
    (∀ c : Byte, b = [c] → 15 < c.toNat → exec (.contextRead p b) s = .next (s.refused p .contextRead .badReference)) ∧
    (∀ c : Byte, b = [c] → c.toNat ≤ 15 → exec (.contextRead p b) s = s.replies p .contextRead .ok
      ([c, BitVec.ofNat 8 (s.contextState c.toNat).code,
        if ∃ e ∈ s.queue, e.context = c.toNat then 1 else 0, if s.site.fallback = c.toNat then 1 else 0,
        BitVec.ofNat 8 ((s.settings.contexts.map fun x => match x with | some r => r.entries.length | none => 0).sum)] ++
       match s.context c.toNat with
       | none => [0, 0, 0, 0, 0, 0, 0, 0]
       | some r => u16 r.cap ++ [BitVec.ofNat 8 r.ramp, BitVec.ofNat 8 r.grace, BitVec.ofNat 8 r.purgeLead,
           BitVec.ofNat 8 r.purgeDur, BitVec.ofNat 8 r.preheatLead, BitVec.ofNat 8 r.entries.length] ++
           r.entries.flatMap fun e => [BitVec.ofNat 8 e.zone, BitVec.ofNat 8 e.occLevel, BitVec.ofNat 8 e.vacLevel] ++
             u16 e.setpoint ++ [BitVec.ofNat 8 e.setback, if e.heat = true then 1 else 0, BitVec.ofNat 8 e.ventMin])
      (s.framed p)) ∧
    (b.length ≠ 3 → exec (.calendarRead p b) s = .next (s.refused p .calendarRead .badLength)) ∧
    (∀ hi lo n : Byte, b = [hi, lo, n] →
      let first := 256 * hi.toNat + lo.toNat
      (671 < first → exec (.calendarRead p b) s = .next (s.refused p .calendarRead .badReference)) ∧
      (first ≤ 671 → (n.toNat = 0 ∨ 96 < n.toNat) →
        exec (.calendarRead p b) s = .next (s.refused p .calendarRead .badLength)) ∧
      (first ≤ 671 → 1 ≤ n.toNat → n.toNat ≤ 96 → exec (.calendarRead p b) s = s.replies p .calendarRead .ok
        ([hi, lo, n] ++
         ((List.range n.toNat).map fun i => match s.slotValue ((first + i) % 672) with
            | some c => BitVec.ofNat 8 c
            | none => 0xFF#8) ++
         [BitVec.ofNat 8 s.site.lead, BitVec.ofNat 8 s.queue.length] ++
         s.queue.flatMap fun e => u16 e.slot ++ [BitVec.ofNat 8 e.context,
           BitVec.ofNat 8 ((if e.purgeStarted = true then 1 else 0) + if e.preheating = true then 2 else 0)])
        (s.framed p)))

/-- CONTEXT WRITE (R56) by its table: the refusals in their order, and the record stored with every quantity in its
range, its entries in ascending zone order and one for each entry written. A heat enable that is neither 0 nor 1 is
refused, the model's reading of a malformed record (log 13). -/
def Obligations.ContextWriteStoresTheRecord : Prop :=
  ∀ (s : State) (p : Port) (b : List Byte), s.takes p b → s.authority.holder = some p →
    let c := rd8 b 0
    let n := rd8 b 8
    let entries := (List.range n).map fun i => ZoneEntry.ofBytes (b.drop (9 + 8 * i))
    let flagsOk := ∀ i < n, rd8 b (9 + 8 * i + 6) ≤ 1
    let zonesOk := (∀ e ∈ entries, e.zone ≤ 15) ∧ (entries.map ZoneEntry.zone).Nodup
    let inRange := fun e : ZoneEntry => { e with
      occLevel := clampN 0 100 e.occLevel, vacLevel := clampN 0 100 e.vacLevel, setpoint := clampN 50 280 e.setpoint
      setback := clampN 0 100 e.setback, ventMin := clampN 0 3 e.ventMin }
    let poolAfter := poolUsed s.settings.contexts - contextEntries (s.context c) + n
    ((b.length < 9 ∨ n = 0 ∨ 16 < n ∨ b.length ≠ 9 + 8 * n) →
      exec (.contextWrite p b) s = .next (s.refused p .contextWrite .badLength)) ∧
    (1 ≤ n → n ≤ 16 → b.length = 9 + 8 * n →
      ((15 < c ∨ ¬zonesOk ∨ ¬flagsOk) →
        exec (.contextWrite p b) s = .next (s.refused p .contextWrite .badReference)) ∧
      (c ≤ 15 → zonesOk → flagsOk →
        (s.active c = true → exec (.contextWrite p b) s = .next (s.refused p .contextWrite .inUse)) ∧
        (s.active c = false → 192 < poolAfter →
          exec (.contextWrite p b) s = .next (s.refused p .contextWrite .poolFull)) ∧
        (s.active c = false → poolAfter ≤ 192 → ∃ (r : Context) (st : Status),
          exec (.contextWrite p b) s = s.replies p .contextWrite st []
            { s.framed p with settings := { s.settings with contexts := s.settings.contexts.set c (some r) } } ∧
          r.cap = clampN 10 5000 (rd16 b 1) ∧ r.ramp = clampN 1 60 (rd8 b 3) ∧ r.grace = clampN 0 30 (rd8 b 4) ∧
          r.purgeLead = clampN 0 30 (rd8 b 5) ∧ r.purgeDur = clampN 1 30 (rd8 b 6) ∧
          r.preheatLead = clampN 0 60 (rd8 b 7) ∧ r.Ordered ∧ r.entries.Perm (entries.map inRange) ∧
          (st = .ok ∨ st = .clamped) ∧
          (st = .ok ↔ r.cap = rd16 b 1 ∧ r.ramp = rd8 b 3 ∧ r.grace = rd8 b 4 ∧ r.purgeLead = rd8 b 5 ∧
            r.purgeDur = rd8 b 6 ∧ r.preheatLead = rd8 b 7 ∧ ∀ e ∈ entries, inRange e = e))))

/-- CONTEXT ERASE and CONTEXT COPY (R57, R58), row by row: the refusals, the context made EMPTY, and the source's record
drawn into the destination, the source unchanged. -/
def Obligations.ContextEraseAndCopyFollowTheirTables : Prop :=
  ∀ (s : State) (p : Port) (b : List Byte), s.takes p b →
    (s.authority.holder ≠ some p →
      exec (.contextErase p b) s = .next (s.refused p .contextErase .notHolder) ∧
      exec (.contextCopy p b) s = .next (s.refused p .contextCopy .notHolder)) ∧
    (s.authority.holder = some p →
      (∀ c : Byte, b = [c] →
        (15 < c.toNat → exec (.contextErase p b) s = .next (s.refused p .contextErase .badReference)) ∧
        (c.toNat ≤ 15 → (s.active c.toNat = true ∨ (∃ e ∈ s.queue, e.context = c.toNat) ∨ s.site.fallback = c.toNat) →
          exec (.contextErase p b) s = .next (s.refused p .contextErase .inUse)) ∧
        (c.toNat ≤ 15 → s.active c.toNat = false → (∀ e ∈ s.queue, e.context ≠ c.toNat) → s.site.fallback ≠ c.toNat →
          exec (.contextErase p b) s = s.replies p .contextErase .ok []
            { s.framed p with settings := { s.settings with contexts := s.settings.contexts.set c.toNat none } })) ∧
      (∀ src dst : Byte, b = [src, dst] →
        ((15 < src.toNat ∨ 15 < dst.toNat) →
          exec (.contextCopy p b) s = .next (s.refused p .contextCopy .badReference)) ∧
        (src.toNat ≤ 15 → dst.toNat ≤ 15 → s.context src.toNat = none →
          exec (.contextCopy p b) s = .next (s.refused p .contextCopy .emptyContext)) ∧
        (∀ r, src.toNat ≤ 15 → dst.toNat ≤ 15 → s.context src.toNat = some r →
          let poolAfter := poolUsed s.settings.contexts - contextEntries (s.context dst.toNat) + r.entries.length
          (s.active dst.toNat = true → exec (.contextCopy p b) s = .next (s.refused p .contextCopy .inUse)) ∧
          (s.active dst.toNat = false → src = dst →
            exec (.contextCopy p b) s = s.replies p .contextCopy .ok [] (s.framed p)) ∧
          (s.active dst.toNat = false → src ≠ dst → 192 < poolAfter →
            exec (.contextCopy p b) s = .next (s.refused p .contextCopy .poolFull)) ∧
          (s.active dst.toNat = false → src ≠ dst → poolAfter ≤ 192 →
            exec (.contextCopy p b) s = s.replies p .contextCopy .ok []
              { s.framed p with settings := { s.settings with contexts := s.settings.contexts.set dst.toNat (some r) } }))))

/-- CALENDAR WRITE (R52): the refusals, each slot of the run stored from the first slot on with wrapping and every other
slot kept, the queue left as it stands, and OK or DEFERRED with the number of the run's slots inside the edit horizon:
while RUNNING with the clock VALID, the slot at which the calendar was last read, which is the current slot but for a
boundary whose look-ahead read is still to come, and the H slots after it (R52, "Arriving together with a look-ahead
read"; the model's reading, log 29). -/
def Obligations.CalendarWriteStoresTheRunAndCountsTheDeferred : Prop :=
  ∀ (s : State) (p : Port) (b : List Byte), s.takes p b → s.authority.holder = some p →
    ((b.length < 3 ∨ 98 < b.length) → exec (.calendarWrite p b) s = .next (s.refused p .calendarWrite .badLength)) ∧
    (∀ (hi lo : Byte) (run : List Byte), b = hi :: lo :: run → 1 ≤ run.length → run.length ≤ 96 →
      let first := 256 * hi.toNat + lo.toNat
      ((671 < first ∨ ∃ v ∈ run, 15 < v.toNat ∧ v ≠ 0xFF#8) →
        exec (.calendarWrite p b) s = .next (s.refused p .calendarWrite .badReference)) ∧
      (first ≤ 671 → (∀ v ∈ run, v.toNat ≤ 15 ∨ v = 0xFF#8) → s.settings.Sized → s.readAt < 672 →
        s.site.lead ≤ 4 → ∃ t,
        let deferred := ((List.range run.length).filter fun i => decide (s.runMode = .running ∧ s.clock.valid = true ∧
          ∃ j < s.site.lead + 1, (first + i) % 672 = (s.readAt + j) % 672)).length
        exec (.calendarWrite p b) s = s.replies p .calendarWrite (if deferred = 0 then .ok else .deferred)
          (if deferred = 0 then [] else [BitVec.ofNat 8 deferred]) t ∧
        t = { s.framed p with settings := { s.settings with calendar := t.settings.calendar } } ∧
        (∀ i v, run[i]? = some v → t.slotValue ((first + i) % 672) = if v = 0xFF#8 then none else some v.toNat) ∧
        (∀ k < 672, (∀ i < run.length, (first + i) % 672 ≠ k) → t.slotValue k = s.slotValue k)))

/-- SET CLOCK (R66). In STOPPED the clock is set and made VALID with CLOCK_SET at the new time; the running site second
keeps its phase and length (the model's choice, log 6). In RUNNING, besides, the queue is cleared, the look-back's
context goes to the handover as a due event's would with cause CLOCK, the queue is refilled from the slots current + 1
to current + H with the purges whose lead has come started at once (R63), and the window, which ran by the clock before
it was set (log 37), is closed short, the rotation pointers advancing (R132), and a new one opened on the SITE base, to
the next aligned boundary or, where less than 60 s remain, to the one after, so 60 to 3659 s long (R131); where the
look-back finds an EMPTY context or nothing, the programme stays. Each case says what it leaves of the doors, locks and
zones; the round timer, the period measures, U_est and the allocation record stay (R133). Both ports are told of an EMPTY
context found or reread, of a handover started, of the window and of the clock, in the order of R66's steps; within a
step, HANDOVER_DONE or HANDOVER_CANCELLED before the releases in ascending lock number (the model's choice, log 33).
That a swap in fire mode clears the arrival marks (log 46) and which boundary the calendar counts as read (log 29) are
its readings. -/
def Obligations.SetClockSetsTheClockAndRereadsTheCalendar : Prop :=
  ∀ (s : State) (p : Port) (hi lo second : Byte), (s.port p).sending = false → s.authority.holder = some p →
    let minute := 256 * hi.toNat + lo.toNat
    let clock : SiteClock := { s.clock with minute := minute, second := second.toNat, valid := true }
    ((10079 < minute ∨ 59 < second.toNat) →
      exec (.setClock p [hi, lo, second]) s = .next (s.refused p .setClock .badReference)) ∧
    (minute ≤ 10079 → second.toNat ≤ 59 → s.runMode = .stopped →
      exec (.setClock p [hi, lo, second]) s = .next (s.answered p RequestKind.setClock.code .ok []
        (({ s.framed p with clock := clock } : State).raises [(.clockSet, 0, minute)]))) ∧
    (minute ≤ 10079 → second.toNat ≤ 59 → s.runMode = .running → s.Sized → s.site.lead ≤ 4 → ∃ t,
      let found : State := { s with clock := clock }
      let after := fun first : List (EventKind × Nat × Nat) =>
        t.link = (({ s.framed p with clock := clock } : State).raises (first ++ found.refillEvents ++
          (if s.alloc.window = none then [] else
            [(.windowClosed, 1, min 65535 (t.alloc.last.used * 100 / t.alloc.last.target))]) ++
          [(.clockSet, 0, minute)])).link
      let leaves := fun (programme : Programme) (doors : List DoorRec) (locks : List (Option Lock))
          (zones : List ZoneRec) =>
        t.programme = programme ∧ t.doors = doors ∧ t.locks = locks ∧
        t.zones = (({ found with zones := zones } : State).purgedBy t.queue).zones
      let same := leaves s.programme s.doors s.locks s.zones
      exec (.setClock p [hi, lo, second]) s = .next (s.answered p RequestKind.setClock.code .ok [] t) ∧
      t = { s with clock := clock, programme := t.programme, queue := t.queue, readAt := minute / 15, zones := t.zones,
                   doors := t.doors, locks := t.locks, alloc := t.alloc, link := t.link } ∧
      (∀ q, (t.port q).events.getLast? =
        some { kind := .clockSet, time := some (minute, second.toNat), subject := 0, value := minute }) ∧
      t.queue = found.refill t.programme.inForce ∧
      ((∀ k < 672, s.slotValue k = none) → same ∧ after []) ∧
      (∀ m c, found.lookedBack m c →
        ((s.context c).isSome = true → s.programme.inForce = some c → same ∧ after []) ∧
        (s.context c = none → same ∧ after [(.calendarEmptyContext, c, (minute / 15 + 672 - m) % 672)]) ∧
        (∀ o, s.programme = .current o → c ≠ o → (s.context c).isSome = true → s.fire = false → s.enabledZones ≠ 0 →
          leaves (.handover (s.freshHandover o c .clock)) s.doors s.locks s.unmarked ∧
          after [(.handoverStart, c, o + 32)]) ∧
        (∀ o, s.programme = .current o → c ≠ o → (s.context c).isSome = true → (s.fire = true ∨ s.enabledZones = 0) →
          leaves (.current c) s.shiftReset s.unflagged s.unmarked ∧
          after ((.handoverStart, c, o + 32) :: (.handoverDone, c, if s.fire = true then 0x8000 else 0) ::
            s.handoverReleases)) ∧
        (∀ h, s.programme = .handover h → (s.context c).isSome = true →
          (c = h.incoming → same ∧ after []) ∧
          (c ≠ h.incoming → c = h.outgoing → leaves (.current c) s.doors s.unflagged s.zones ∧
            after ((.handoverCancelled, c, h.incoming) :: s.handoverReleases)) ∧
          (c ≠ h.incoming → c ≠ h.outgoing →
            leaves (.handover { s.freshHandover h.outgoing c .clock with target := h.target }) s.doors s.locks
              s.unmarked ∧
            after [(.handoverStart, c, h.outgoing + 32 + 256)]))) ∧
      let next := fun k ptr => if (s.rotationList k).length = 0 then 0 else (ptr + 1) % (s.rotationList k).length
      ∃ w' : Window,
        t.alloc = (match s.alloc.window with
          | none => { s.alloc with window := some w' }
          | some w => { s.alloc with
              window := some w'
              last := { used := w.pulses * s.site.pulseWeight, target := t.capEff * w.len / 3600,
                        exceeded := decide (t.capEff * w.len / 3600 < w.pulses * s.site.pulseWeight), len := w.len,
                        ran := s.windowTime w, short := true }
              rot1 := next 1 s.alloc.rot1, rot2 := next 2 s.alloc.rot2, rot3 := next 3 s.alloc.rot3 }) ∧
        w'.base = .site ∧ w'.start = 60 * minute + second.toNat ∧ w'.pulses = 0 ∧ w'.overRaised = false ∧
        (∀ k ≤ 60, 5 ≤ k → s.site.windowLen = 60 * k →
          w'.len = openedLen (60 * k) (60 * minute + second.toNat) ∧ 60 ≤ w'.len ∧ w'.len ≤ 3659))

/-- The due event (R63): the head of the queue whose due time the clock has reached is removed, a lead-0 purge that has
not started starts for the enabled zones its context lists, and its context goes to the handover, which starts,
completes at once with no zone enabled or in fire mode, has no effect on the context in force, and with a handover in
progress changes nothing, cancels it or retargets it. Before that time, and while the calendar does not run, nothing
happens. Several OVERRIDE_RELEASED are raised in ascending lock number (the model's choice, log 33), and a start in fire
mode clears the arrival marks (the model's reading, log 46). -/
def Obligations.DueEventHandsOnTheHead : Prop :=
  (∀ s : State, (s.runMode = .stopped ∨ s.clock.valid = false ∨ s.queue = []) → exec .dueEvent s = .next s) ∧
  (∀ (s : State) (e : QueueEntry) (rest : List QueueEntry), s.queue = e :: rest → 0 < s.timeToDue e →
    s.timeToDue e ≤ 3600 → exec .dueEvent s = .next s) ∧
  (∀ (s : State) (e : QueueEntry) (rest : List QueueEntry) (k : Context), s.Sized → s.runMode = .running →
    s.clock.valid = true → s.queue = e :: rest → 60 * s.clock.minute + s.clock.second = 900 * e.slot →
    s.context e.context = some k →
    let n := e.context
    let s1 : State := { s with queue := rest }
    let s2 := if e.purgeStarted = false ∧ k.purgeLead = 0 then
        s1.purged (fun z => k.entries.any fun x => x.zone == z) k.purgeDur else s1
    (s.programme = .current n → exec .dueEvent s = .next s2) ∧
    (∀ o, s.programme = .current o → o ≠ n → s.fire = false → s.enabledZones ≠ 0 →
      exec .dueEvent s = .next (s2.shifted o n .due)) ∧
    (∀ o, s.programme = .current o → o ≠ n → s.fire = false → s.enabledZones = 0 →
      exec .dueEvent s = .next
        { s2.completed n [(.handoverStart, n, o), (.handoverDone, n, 0)] with zones := s2.unmarked }) ∧
    (∀ o, s.programme = .current o → o ≠ n → s.fire = true →
      exec .dueEvent s = .next
        { s2.completed n [(.handoverStart, n, o), (.handoverDone, n, 0x8000)] with zones := s2.unmarked }) ∧
    (∀ h, s.programme = .handover h → n = h.incoming → exec .dueEvent s = .next s2) ∧
    (∀ h, s.programme = .handover h → n ≠ h.incoming → n = h.outgoing → exec .dueEvent s = .next
      { s2.raises ((.handoverCancelled, n, h.incoming) :: s.handoverReleases) with
          programme := .current n, locks := s.unflagged }) ∧
    (∀ h, s.programme = .handover h → n ≠ h.incoming → n ≠ h.outgoing →
      exec .dueEvent s = .next (s2.retargeted h n .due)))

/-- The look-ahead read (R62) and the purge and preheat leads (R63, R64): at a slot boundary slot current + H is read,
and an entry appended where it names a non-EMPTY context that is not in force there, its purge and preheat timing
applied at once; an EMPTY context raises CALENDAR_EMPTY_CONTEXT; a head already due is first handed on as its due event
would; and at an entry's purge lead its purge starts, at its preheat lead its preheat, and with a lead of 0 neither does
by its row. Away from a boundary, while the calendar does not run, and at a boundary that START or SET CLOCK has read
already (R66; the model's reading, log 29), nothing is read. -/
def Obligations.LookAheadReadsTheSlotAndLeadsStart : Prop :=
  (∀ s : State, (s.runMode = .stopped ∨ s.clock.valid = false ∨ s.clock.second ≠ 0 ∨ s.clock.minute % 15 ≠ 0 ∨
    s.readAt = s.clock.minute / 15) → exec .lookAheadRead s = .next s) ∧
  (∀ (s u : State) (e : QueueEntry) (rest : List QueueEntry), s.runMode = .running → s.clock.valid = true →
    s.queue = e :: rest → s.timeToDue e = 0 → (∀ x ∈ rest.head?, 0 < s.timeToDue x ∧ s.timeToDue x ≤ 3600) →
    exec .dueEvent s = .next u → exec .lookAheadRead s = exec .lookAheadRead u ∨ s.readAt = s.clock.minute / 15 ∨
      s.clock.second ≠ 0 ∨ s.clock.minute % 15 ≠ 0) ∧
  (∀ (s : State) (k : Nat), s.Sized → s.runMode = .running → s.clock.valid = true → s.clock.second = 0 →
    s.clock.minute % 15 = 0 → s.clock.minute < 10080 → s.readAt ≠ s.clock.minute / 15 → 1 ≤ s.site.lead →
    s.site.lead ≤ 4 → (∀ e ∈ s.queue.head?, 0 < s.timeToDue e ∧ s.timeToDue e ≤ 3600) →
    k = (s.clock.minute / 15 + s.site.lead) % 672 →
    let ahead := match s.queue.getLast? with
      | some e => some e.context
      | none => s.programme.inForce
    let read : State := { s with readAt := s.clock.minute / 15 }
    (s.slotValue k = none → exec .lookAheadRead s = .next read) ∧
    (∀ c, s.slotValue k = some c → s.context c = none →
      exec .lookAheadRead s = .next (read.raises [(.calendarEmptyContext, c, k)])) ∧
    (∀ c, s.slotValue k = some c → (s.context c).isSome = true → ahead = some c → exec .lookAheadRead s = .next read) ∧
    (∀ c, s.slotValue k = some c → ∀ r, s.context c = some r → ahead ≠ some c → s.queue.length < s.site.lead →
      (∀ e ∈ s.queue, e.slot ≠ k) →
      let started : Bool := decide (0 < r.purgeLead ∧ 900 * s.site.lead ≤ 60 * r.purgeLead)
      let s1 := if started = true then read.purged (fun z => r.entries.any fun x => x.zone == z) r.purgeDur else read
      exec .lookAheadRead s = .next
        { s1 with queue := s.queue ++
            [{ slot := k, context := c, purgeStarted := started,
               preheating := decide (0 < r.preheatLead ∧ 900 * s.site.lead ≤ 60 * r.preheatLead) }] })) ∧
  (∀ (s : State) (slot : Fin 672) (e : QueueEntry) (r : Context), s.Sized → s.runMode = .running →
    s.clock.valid = true → (s.queue.find? fun x => x.slot == slot.val) = some e → s.context e.context = some r →
    (e.purgeStarted = false → 0 < r.purgeLead → s.timeToDue e ≤ 60 * r.purgeLead →
      exec (.purgeLeadReached slot) s = .next
        { s.purged (fun z => r.entries.any fun x => x.zone == z) r.purgeDur with
            queue := s.queue.map fun x => if x.slot = slot.val then { x with purgeStarted := true } else x }) ∧
    ((e.purgeStarted = true ∨ r.purgeLead = 0 ∨ 60 * r.purgeLead < s.timeToDue e) →
      exec (.purgeLeadReached slot) s = .next s) ∧
    (e.preheating = false → 0 < r.preheatLead → s.timeToDue e ≤ 60 * r.preheatLead →
      exec (.preheatLeadReached slot) s = .next
        { s with queue := s.queue.map fun x => if x.slot = slot.val then { x with preheating := true } else x }) ∧
    ((e.preheating = true ∨ r.preheatLead = 0 ∨ 60 * r.preheatLead < s.timeToDue e) →
      exec (.preheatLeadReached slot) s = .next s))

/-! ### Shift handover -/

/-- FORCE SHIFT (R67) and what the handover makes of its target (R71): the refusals; no effect on the context in force;
a handover started, or completed at once where no zone is enabled or fire mode is set; and with one in progress no
change, a cancel back to OUTGOING, or a retarget that keeps the barrier target. Several OVERRIDE_RELEASED are raised in
ascending lock number (the model's choice, log 33), and a start in fire mode clears the arrival marks (the model's
reading, log 46). -/
def Obligations.ForceShiftGivesTheHandoverATarget : Prop :=
  ∀ (s : State) (p : Port) (b : List Byte), s.takes p b → s.Sized → s.authority.holder = some p →
    (b.length ≠ 1 → exec (.forceShift p b) s = .next (s.refused p .forceShift .badLength)) ∧
    (∀ c : Byte, b = [c] →
      let n := c.toNat
      (15 < n → exec (.forceShift p b) s = .next (s.refused p .forceShift .badReference)) ∧
      (n ≤ 15 → s.runMode = .stopped → exec (.forceShift p b) s = .next (s.refused p .forceShift .notRunning)) ∧
      (n ≤ 15 → s.runMode = .running → s.context n = none →
        exec (.forceShift p b) s = .next (s.refused p .forceShift .emptyContext)) ∧
      (n ≤ 15 → s.runMode = .running → (s.context n).isSome = true →
        (s.programme = .current n → exec (.forceShift p b) s = s.replies p .forceShift .ok [] (s.framed p)) ∧
        (∀ o, s.programme = .current o → o ≠ n → s.fire = false → s.enabledZones ≠ 0 →
          exec (.forceShift p b) s = s.replies p .forceShift .ok [] ((s.framed p).shifted o n .force)) ∧
        (∀ o, s.programme = .current o → o ≠ n → s.fire = false → s.enabledZones = 0 →
          exec (.forceShift p b) s = s.replies p .forceShift .ok []
            { (s.framed p).completed n [(.handoverStart, n, o + 16), (.handoverDone, n, 0)] with zones := s.unmarked }) ∧
        (∀ o, s.programme = .current o → o ≠ n → s.fire = true →
          exec (.forceShift p b) s = s.replies p .forceShift .ok []
            { (s.framed p).completed n [(.handoverStart, n, o + 16), (.handoverDone, n, 0x8000)] with
                zones := s.unmarked }) ∧
        (∀ h, s.programme = .handover h → n = h.incoming →
          exec (.forceShift p b) s = s.replies p .forceShift .ok [] (s.framed p)) ∧
        (∀ h, s.programme = .handover h → n ≠ h.incoming → n = h.outgoing →
          exec (.forceShift p b) s = s.replies p .forceShift .ok []
            { (s.framed p).raises ((.handoverCancelled, n, h.incoming) :: s.handoverReleases) with
                programme := .current n, locks := s.unflagged }) ∧
        (∀ h, s.programme = .handover h → n ≠ h.incoming → n ≠ h.outgoing →
          exec (.forceShift p b) s = s.replies p .forceShift .ok [] ((s.framed p).retargeted h n .force))))

/-- The end of the handover ramp (R75, R46, R78) and the late test (R79, R80): once elapsed is 60 × R the LIGHT
participant of every enabled zone that has not arrived arrives and is counted once, and the barrier reached completes
the handover; at 60 × (R + G) the handover completes late with the mask of the enabled zones that fell short. Before
those times, and with no handover, nothing happens. Several OVERRIDE_RELEASED are raised in ascending lock number (the
model's choice, log 33), and the ramp end taken as a row apart from an evaluation is its reading (log 5). -/
def Obligations.RampEndAndLateTestEndTheHandover : Prop :=
  (∀ s : State, s.settled → exec .handoverRampEnd s = .next s ∧ exec .lateTest s = .next s) ∧
  (∀ (s : State) (h : Handover), s.Sized → s.programme = .handover h →
    let waiting := (List.range 16).filter fun z => s.enabled z && !(s.zone z).marks.light
    let arrived := s.zones.mapIdx fun z r =>
      if s.enabled z = true then { r with marks := { r.marks with light := true } } else r
    let late := (List.range 16).filter fun z =>
      s.enabled z && !((s.zone z).marks.light && (s.zone z).marks.heat && (s.zone z).marks.vent)
    (h.elapsed < 60 * h.ramp → exec .handoverRampEnd s = .next s) ∧
    (60 * h.ramp ≤ h.elapsed → h.count + waiting.length < h.target →
      exec .handoverRampEnd s = .next
        { s with programme := .handover { h with count := h.count + waiting.length }, zones := arrived }) ∧
    (60 * h.ramp ≤ h.elapsed → waiting ≠ [] → h.count + waiting.length = h.target →
      exec .handoverRampEnd s = .next
        { s.completed h.incoming [(.handoverDone, h.incoming, h.elapsed)] with zones := arrived }) ∧
    (h.elapsed < 60 * (h.ramp + h.grace) → exec .lateTest s = .next s) ∧
    (60 * (h.ramp + h.grace) ≤ h.elapsed → exec .lateTest s = .next
      (s.completed h.incoming [(.handoverLate, h.incoming, (late.map fun z => 2 ^ z).sum)])))

/-! ### Run modes -/

/-- START (R183) is refused with NOT_STOPPED while RUNNING, and with CONFIG_ERROR, the check and the item at the first
failure of its table, check by check and item by item; a refused START changes no state. -/
def Obligations.StartReportsTheFirstFailure : Prop :=
  ∀ (s : State) (p : Port), (s.port p).sending = false → s.authority.holder = some p →
    (s.runMode = .running → exec (.start p []) s = .next (s.refused p .start .notStopped)) ∧
    (∀ k i, s.runMode = .stopped → s.startCheck k i →
      (∀ k' i', s.startCheck k' i' → k < k' ∨ (k = k' ∧ i ≤ i')) →
      exec (.start p []) s =
        s.replies p .start .configError [BitVec.ofNat 8 k, BitVec.ofNat 8 i] (s.framed p))

/-- START taken (R183) leaves what `startedTo` tells: the part is RUNNING; fire mode stays only while a FIRE line is
ACTIVE (R16); both counts of every door are 0 (R12); every enabled zone is OCCUPIED with a full hold, no participant
arrived, its present level raised to its floor (R47, R99), its rated watts and trim tier in force the configuration's
(log 47) and its purge end set by the queue's entries that started their purge as they were read (R63, R128), and nothing
else of a zone changes but the fan stages where the latch is cleared; every test has ended and every forcing is gone but
FIRE (R152, R157), and an output keeps its hold, stamps and commanded value; the fallback context or the one the
look-back finds is CURRENT, and with the clock VALID the queue is what the slots current + 1 to current + H give (R65); a
window is open, to the next aligned boundary or the one after (R131), and the allocator starts afresh (R146). Both ports
are told of FIRE_RESET, value 1, where the latch is cleared, and of each EMPTY context found or read, in the order of
R183's effects (the model's choice, log 33). The queue is empty before START, as the look-ahead law has it of every
STOPPED part; the outputs are told for a part that obeys the laws of STOPPED and of the air stages. -/
def Obligations.StartEntersRunning : Prop :=
  openedLen 900 (60 * 487 + 30) = 450 ∧ openedLen 900 (60 * 494 + 20) = 940 ∧
  ∀ (s : State) (p : Port), s.Sized → (s.port p).sending = false → s.authority.holder = some p → s.runMode = .stopped →
    (∀ k i, ¬s.startCheck k i) → s.queue = [] →
    ∃ t, exec (.start p []) s = s.replies p .start .ok [] t ∧ (s.framed p).startedTo t

/-- STOP taken (R183): no context is active and the queue is empty (R68); the window has closed short into the
last-window record with WINDOW_CLOSED of subject 1, the rotation pointers advancing, and U_est and the allocation record
are kept (R132, R145, R146), and the last-pulse time too (the model's choice, log 50); every lock is EMPTY, with
OVERRIDE_RELEASED of reason STOP (R169; in ascending lock number, the model's choice, log 33); every zone is VACANT at
its idle programme, its lights at the stopped light level or 100 in fire mode, its heating and ventilation reset (R47,
R99, R115, R128); every load output is OFF, forced STOP, ungranted, one that was ON with its last off time stamped and
MIN_OFF begun, one that was OFF with its hold kept (R152). While STOPPED it is refused with NOT_RUNNING. -/
def Obligations.StopEntersStopped : Prop :=
  ∀ (s : State) (p : Port), s.Sized → (s.port p).sending = false → s.authority.holder = some p →
    (s.runMode = .stopped → exec (.stop p []) s = .next (s.refused p .stop .notRunning)) ∧
    (s.runMode = .running → ∃ t, exec (.stop p []) s = s.replies p .stop .ok [] t ∧
      t = { s with runMode := .stopped, programme := .none, queue := [], activity := List.replicate 16 false,
                   locks := List.replicate 48 none, zones := t.zones, outputs := t.outputs, alloc := t.alloc,
                   link := t.link } ∧
      t.link = ((s.framed p).raises
        ((if s.alloc.window = none then [] else
            [(.windowClosed, 1, min 65535 (t.alloc.last.used * 100 / t.alloc.last.target))]) ++
         ((List.range 48).filter fun i => (s.lock i).isSome).map fun i =>
           (.overrideReleased, i, 4 + 256 * partyCode ((s.lock i).map Lock.owner)))).link ∧
      (let next := fun k ptr => if (s.rotationList k).length = 0 then 0 else (ptr + 1) % (s.rotationList k).length
       let idle : Alloc :=
         { s.alloc with window := none, nextRound := none, pulses := 0, wattSeconds := 0, meterLost := false }
       t.alloc = match s.alloc.window with
         | none => idle
         | some w => { idle with
             last := { used := w.pulses * s.site.pulseWeight, target := s.windowTarget w,
                       exceeded := decide (s.windowTarget w < w.pulses * s.site.pulseWeight), len := w.len,
                       ran := s.windowTime w, short := true }
             rot1 := next 1 s.alloc.rot1, rot2 := next 2 s.alloc.rot2, rot3 := next 3 s.alloc.rot3 }) ∧
      (∀ z < 16, t.zone z =
        { occ := { (s.zone z).occ with state := .vacant, activity := false, rise := false }
          prog := idleProg (s.zoneCfg z)
          light := stoppedLight (s.zoneCfg z)
            (if s.enabled z = true then (if s.fire = true then 100 else s.site.stoppedLevel) else 0)
          heat := stoppedHeat (s.zoneCfg z)
          vent := { (s.zone z).vent with air := 0, credited := 0, nonAir := 0, stages := 0, alarm := false,
                                         purgeEnd := none }
          marks := noMarks }) ∧
      (∀ o < 40, s.isLoad o = true →
        let off : OutputRec := { s.out o with drive := false, forced := .stop, request := none, grant := .none }
        t.out o = if (s.out o).drive = true then
            { off with lastOff := some s.now, hold := if (s.outCfg o).minOff = 0 then .none else .minOff }
          else off) ∧
      (∀ o < 40, s.isLoad o = false → t.out o = s.out o))

/-- Power-on and RESTART (R182): the stored image, or the factory defaults with SETTINGS_INVALID, is loaded; the part is
STOPPED with no authority, no lock, no programme and its outputs as R148 starts them; lines, channels and the fire latch
make their initial takes, with CHANNEL_LOST for each channel whose first sample is invalid and FIRE_ON for the lowest
ACTIVE FIRE line (R2, R21, R16; the order of these events is the model's, log 33); autostart leaves what START's effects
leave of that part, or raises START_REFUSED. Power-on starts the clock
INVALID and the ports in baud search at 9600; RESTART, refused with BUSY while SAVE is busy, keeps the clock, each
port's rate, liveness and last-frame time, and the snapshot buffers. That pins and codes come with the command is the
model's way of presenting the first sample (log 4). The model's choices besides: RESTART keeps the frames formed (log
32), and stamps the manual calls meaningless hold 0 (log 28); that a latch set at the initial take leaves the output
records as they are is its reading (log 19). -/
def Obligations.PowerOnAndRestartLoadTheImage : Prop :=
  (∀ (s : State) (levels : LineLevels) (codes : List (BitVec 12)), (s.store.image.getD factorySettings).Sized →
    ∃ t, exec (.powerOn levels codes) s = .next t ∧ s.bootedTo t levels codes ∧
      t.pending = s.pending ∧ t.now = 0 ∧ t.clock = bootClock t.site.clockTrim ∧ t.slowOn = true ∧ t.fastOn = true ∧
      (∀ p, (t.port p).rate = .r9600 ∧ (t.port p).alive = false ∧ (t.port p).lastFrame = none ∧ (t.port p).tx = [] ∧
        (t.port p).sending = false) ∧
      t.snaps = { fill := none, newest := none, heldSup := none, heldPan := none, count := 0,
                  nextAt := 100 * t.site.period }) ∧
  (∀ (s : State) (p : Port) (levels : LineLevels) (codes : List (BitVec 12)), (s.port p).sending = false →
    s.authority.holder = some p → (s.store.image.getD factorySettings).Sized →
    (s.store.saving ≠ none → exec (.restart p [] levels codes) s = .next (s.refused p .restart .busy)) ∧
    (s.store.saving = none → ∃ t, exec (.restart p [] levels codes) s = s.replies p .restart .ok [] t ∧
      (s.framed p).bootedTo t levels codes ∧
      t.now = s.now ∧ t.clock = s.clock ∧ t.slowOn = s.slowOn ∧ t.fastOn = s.fastOn ∧ t.pending = s.pending ∧
      (∀ q, (t.port q).rate = (s.port q).rate ∧ (t.port q).alive = ((s.framed p).port q).alive ∧
        (t.port q).lastFrame = ((s.framed p).port q).lastFrame ∧ (t.port q).tx = (s.port q).tx) ∧
      t.snaps = { s.snaps with nextAt := s.now + 100 * t.site.period }))

/-! ### Lines, doors and fire mode -/

/-- LINES READ and LINES MASK (R6, R8): the five line sets in their order and no line record changed; and from the
holder the report mask of every line replaced, nothing else changing and no event queued. A line set holds line 8k + i
in bit i of byte k. Where a configuration write waits for its line's next sample the reply gives the mask and the enable
in force, and LINES MASK acts on the settings and on the mask in force alike (the model's reading, log 16). -/
def Obligations.LinesAreReadAndMasked : Prop :=
  (∀ (f : Nat → Bool) (l : Nat), l < 64 → (lineSet f).length = 8 ∧ inLineSet (lineSet f) l = f l) ∧
  (∀ (s : State) (p : Port) (b : List Byte), s.takes p b → s.Sized →
    (b ≠ [] → exec (.linesRead p b) s = .next (s.refused p .linesRead .badLength)) ∧
    (b = [] → exec (.linesRead p b) s = s.replies p .linesRead .ok
      (lineSet (fun l => (s.line l).raw) ++ lineSet (fun l => (s.line l).active) ++ lineSet (fun l => (s.line l).pending) ++
       lineSet (fun l => (s.line l).inForce.masked) ++ lineSet (fun l => (s.line l).inForce.enable)) (s.framed p)) ∧
    (s.authority.holder ≠ some p → exec (.linesMask p b) s = .next (s.refused p .linesMask .notHolder)) ∧
    (s.authority.holder = some p → b.length ≠ 8 →
      exec (.linesMask p b) s = .next (s.refused p .linesMask .badLength)) ∧
    (s.authority.holder = some p → b.length = 8 →
      let named := fun l => (b.getD (l / 8) 0).getLsbD (l % 8)
      exec (.linesMask p b) s = s.replies p .linesMask .ok []
      { s.framed p with
          settings := { s.settings with lines := s.settings.lines.mapIdx fun l c => { c with masked := named l } }
          lines := s.lines.mapIdx fun l r => { r with inForce := { r.inForce with masked := named l } } }))

/-- LINES CLEAR (R7): the pending flags of the named lines are cleared; a LEVEL line that is still ACTIVE sets its flag
again at once, with a fresh LINE_TRIGGER where it is unmasked; the reply carries the pending flags as they then stand.
Several LINE_TRIGGERs are raised in ascending line number (the model's choice, log 33). -/
def Obligations.LinesClearLeavesLevelLinesPending : Prop :=
  ∀ (s : State) (p : Port) (b : List Byte), s.takes p b → s.Sized →
    (b.length ≠ 8 → exec (.linesClear p b) s = .next (s.refused p .linesClear .badLength)) ∧
    (b.length = 8 →
      let again := fun l => (s.line l).inForce.enable && (s.line l).trigger == .level && (s.line l).active
      let cleared := fun l => inLineSet b l && (s.line l).pending
      exec (.linesClear p b) s = s.replies p .linesClear .ok
        (lineSet fun l => if cleared l = true then again l else (s.line l).pending)
        { (s.framed p).raises (((List.range 64).filter fun l => cleared l && again l && !(s.line l).inForce.masked).map
              fun l => (.lineTrigger, l, 1)) with
            lines := s.lines.mapIdx fun l r => if cleared l = true then { r with pending := again l } else r })

/-- The line sample (R1 to R4): a waiting configuration write takes effect, a line turned off reading INACTIVE; every
line's raw level is recorded; an enabled line whose levels agree stops its debounce timer; one whose levels differ
starts it, and once they have differed for the debounce time takes the logical level and stops it; a trigger sets the
pending flag, and a LEVEL line that is ACTIVE sets it whenever it is clear. A trigger mode written is in force from the
line's next debounced change, but LEVEL from this sample. The lines are taken one after another in ascending number (the
model's choice, log 33): each is made ready, with what a written configuration does to its doors and, for a line that
becomes a FIRE line while ACTIVE, to the latch (R15); a change that is due reaches the trigger and the role as the row
DEBOUNCED_CHANGE of that line does; and a LEVEL trigger that is present acts. -/
def Obligations.LineSampleDebouncesEveryLine : Prop :=
  ∀ (s : State) (levels : LineLevels), s.Sized → ∃ t, exec (.lineSample levels) s = .next t ∧
    t.pins = { s.pins with levels := levels } ∧ t.settings = s.settings ∧ t.channels = s.channels ∧ t.store = s.store ∧
    t.authority = s.authority ∧ t.queue = s.queue ∧ t.snaps = s.snaps ∧ t.clock = s.clock ∧ t.runMode = s.runMode ∧
    (∀ l < 64,
      let c := s.lineCfg l
      let off : LineRec := { s.line l with active := false, timer := none, pending := false }
      let r : LineRec := if (s.line l).inForce = c then s.line l
        else { (if c.enable = true then s.line l else off) with
                 inForce := c, trigger := if c.trigger = .level then .level else (s.line l).trigger }
      let raw := levels.getLsbD l
      let logical := match c.polarity with | .activeHigh => raw | .activeLow => !raw
      let start := r.timer.getD s.now
      let held := r.trigger == .level
      (c.enable = false → t.line l = { r with raw := raw }) ∧
      (c.enable = true → logical = r.active →
        t.line l = { r with raw := raw, timer := none, pending := r.pending || (held && r.active) }) ∧
      (c.enable = true → logical ≠ r.active → s.now < start + c.debounce →
        t.line l = { r with raw := raw, timer := some start, pending := r.pending || (held && r.active) }) ∧
      (c.enable = true → logical ≠ r.active → start + c.debounce ≤ s.now →
        t.line l = { r with raw := raw, active := logical, timer := none, trigger := c.trigger,
                            pending := r.pending || (match c.trigger with
                              | .level => logical
                              | .toActive => logical
                              | .toInactive => !logical
                              | .both => true) })) ∧
    ∃ u : Nat → State, u 0 = { s with pins := { s.pins with levels := levels } } ∧ t = u 64 ∧
      ∀ l : Fin 64, ∃ w, exec (.debouncedChange l) ((u l).lineReady levels l) = .next w ∧ u (l + 1) = w.levelHeld l

/-- A debounced change (R3 to R5, R9, R10, R13, R15, R137) of an enabled line whose logical level has differed for its
debounce time: the state follows, the trigger mode written is in force from here on, the pending flag takes a trigger
with LINE_TRIGGER on an unmasked line, and the role takes the change: an activity mark, a purge request, a meter pulse,
the door of a DOOR line. A line whose change is not due is left alone. Several DOOR_CLOSED_AFTER_HELD are raised in
ascending door number (the model's choice, log 33). -/
def Obligations.DebouncedChangeReachesItsRole : Prop :=
  ∀ (s : State) (l : Fin 64), s.Sized →
    let r := s.line l
    let c := r.inForce
    let act := match c.polarity with | .activeHigh => r.raw | .activeLow => !r.raw
    let due := c.enable = true ∧ act ≠ r.active ∧ ∃ a, r.timer = some a ∧ a + c.debounce ≤ s.now
    let fires := match c.trigger with | .level => act | .toActive => act | .toInactive => !act | .both => true
    let base : State :=
      { s.raises (if fires = true ∧ r.pending = false ∧ c.masked = false then
            [(.lineTrigger, l, if act = true then 1 else 0)] else []) with
          lines := s.lines.set l { r with active := act, timer := none, trigger := c.trigger, pending := r.pending || fires } }
    (¬due → exec (.debouncedChange l) s = .next s) ∧
    (due → (c.role = .spare ∨ c.role = .shed) → exec (.debouncedChange l) s = .next base) ∧
    (due → c.role = .occupancy → exec (.debouncedChange l) s = .next
      { base with activity := if fires = true ∧ s.runMode = .running ∧ s.enabled c.zone = true
          then s.activity.set c.zone true else s.activity }) ∧
    (due → c.role = .purge → (fires = false ∨ s.runMode = .stopped) → exec (.debouncedChange l) s = .next base) ∧
    (∀ n k, due → c.role = .purge → fires = true → s.runMode = .running →
      ((s.zone c.zone).prog.source = .current n ∨ (s.zone c.zone).prog.source = .incoming n) → s.context n = some k →
      exec (.debouncedChange l) s = .next (base.purged (fun z => z == c.zone) k.purgeDur)) ∧
    (due → c.role = .purge → fires = true → s.runMode = .running → (s.zone c.zone).prog.source = .idle →
      exec (.debouncedChange l) s = .next (base.purged (fun z => z == c.zone) 10)) ∧
    (due → c.role = .meter → (fires = false ∨ s.runMode = .stopped) → exec (.debouncedChange l) s = .next base) ∧
    (due → c.role = .meter → fires = true → s.runMode = .running → exec (.debouncedChange l) s = .next
      { base.raises (if s.alloc.meterLost = true then [(.meterRecovered, l, 0)] else []) with
          alloc := { s.alloc with window := s.alloc.window.map fun w => { w with pulses := w.pulses + 1 }
                                  pulses := s.alloc.pulses + 1, lastPulse := some s.now, meterLost := false } }) ∧
    (due → c.role = .fire → (act = false ∨ s.fire = true) → exec (.debouncedChange l) s = .next base) ∧
    (due → c.role = .door → exec (.debouncedChange l) s = .next
      { base.raises (((List.range 48).filter fun d =>
            (s.doorCfg d).line == some l.val && (s.door d).state == .heldOpen && !act).map
          fun d => (.doorClosedAfterHeld, d, min 65535 ((s.now - (s.door d).since) / 100))) with
          doors := s.doors.mapIdx fun d x =>
            if (s.doorCfg d).line = some l.val then
              if act = false then { x with state := .closed }
              else if x.state = .opened ∨ x.state = .heldOpen then x
              else { x with state := .opened, since := s.now, opens := min 65535 (x.opens + 1) }
            else x })

/-- A FIRE line's change to ACTIVE with the latch clear sets it with FIRE_ON (R15), and every block acts at that moment:
a handover in progress completes with HANDOVER_DONE and the fire flag, and its releases (R83, R80; in ascending lock
number, the model's choice, log 33), every enabled zone stands at 100 (R97), every test ends (R157), every HEATER and
CURTAIN output goes OFF ignoring its hold, its last off time stamped even where it was OFF (the model's reading, log
20), its grant lapsed and forced FIRE unless STOP already (R151); under the fan action OFF every FAN output as well, and
under EXHAUST while RUNNING every fan stage of every enabled zone is requested at tier 0 and granted, an output that was
OFF going ON whatever its hold (R126, R149). Nothing else changes. -/
def Obligations.FireLineSetsFireMode : Prop :=
  ∀ (s : State) (l : Fin 64) (a : Nat), s.Sized → (s.line l).inForce.enable = true → (s.line l).inForce.role = .fire →
    (s.line l).active = false → logicalLevel (s.line l).inForce.polarity (s.line l).raw = true →
    (s.line l).timer = some a → a + (s.line l).inForce.debounce ≤ s.now → s.fire = false →
    let c := (s.line l).inForce
    let fires := c.trigger ≠ .toInactive
    let exhausts := s.site.fireFan = .exhaust ∧ s.runMode = .running
    let first : List (EventKind × Nat × Nat) :=
      (if fires ∧ (s.line l).pending = false ∧ c.masked = false then [(EventKind.lineTrigger, (l : Nat), 1)] else []) ++
        [(EventKind.fireOn, (l : Nat), 0)]
    ∃ t, exec (.debouncedChange l) s = .next t ∧ t.fire = true ∧
      t = { s with fire := true, lines := t.lines, programme := t.programme, doors := t.doors, locks := t.locks,
                   zones := t.zones, outputs := t.outputs, link := t.link } ∧
      t.lines = s.lines.set l { s.line l with
        active := true, timer := none, trigger := c.trigger, pending := (s.line l).pending || decide fires } ∧
      (∀ h, s.programme = .handover h → t.programme = .current h.incoming ∧ t.doors = s.shiftReset ∧
        t.locks = s.unflagged ∧
        t.link = (s.raises (first ++ (.handoverDone, h.incoming, h.elapsed + 0x8000) :: s.handoverReleases)).link) ∧
      (s.settled → t.programme = s.programme ∧ t.doors = s.doors ∧ t.locks = s.locks ∧
        t.link = (s.raises first).link) ∧
      (∀ z < 16, let r := s.zone z
        t.zone z = { r with
          light := if s.enabled z = true then
              { r.light with present := 100, granted := if s.runMode = .running then r.light.granted else 100 }
            else r.light
          heat := { r.heat with units := 0 }
          vent := { r.vent with stages := if s.site.fireFan = .off then 0
            else if exhausts ∧ s.enabled z = true then s.fanStages z else r.vent.stages } }) ∧
      (∀ o < 40, (t.out o).testEnd = none) ∧
      (∀ o < 40, ((s.outCfg o).function = .heater ∨ (s.outCfg o).function = .curtain ∨
          ((s.outCfg o).function = .fan ∧ s.site.fireFan = .off)) →
        t.out o = { s.out o with
          testEnd := none, drive := false, lastOff := some s.now, request := none, grant := .none
          hold := if (s.outCfg o).minOff = 0 then .none else .minOff
          forced := if (s.out o).forced = .stop then .stop else .fire }) ∧
      (∀ o < 40, ∀ z u, (s.outCfg o).ref = .zone z u → exhausts → s.enabled z = true → (s.outCfg o).function = .fan →
        1 ≤ u → u ≤ s.fanStages z →
        t.out o = ((s.out o).untested s.now (s.outCfg o)).asked s.now (s.outCfg o) (some 0)) ∧
      (∀ o < 40, (s.outCfg o).function = .fan → s.site.fireFan = .exhaust →
        (s.runMode = .stopped ∨ ∀ z u, (s.outCfg o).ref = .zone z u → ¬(s.enabled z = true ∧ 1 ≤ u ∧ u ≤ s.fanStages z)) →
        t.out o = (s.out o).untested s.now (s.outCfg o)) ∧
      (∀ o < 40, s.isLoad o = false → t.out o = { s.out o with testEnd := none })

/-- FIRE RESET (R17), row by row: WRONG_PORT, BAD_LENGTH, FIRE_ACTIVE while a FIRE line is ACTIVE, OK without effect with
the latch clear, and otherwise the latch cleared with FIRE_RESET of subject 0 and value 0. What returns with it: forced
FIRE becomes NONE (R151); while RUNNING each enabled zone's fan request becomes its stages 1 to a' at tier 0, granted as
they arise (R126), while a stage above a' loses its grant and goes OFF unless its MIN_ON runs (R144, R149); and while
STOPPED every enabled zone's level the stopped light level (R99). Nothing else changes. -/
def Obligations.FireResetClearsTheLatch : Prop :=
  ∀ (s : State) (b : List Byte),
    let lineActive := ∃ l < 64, (s.line l).inForce.enable = true ∧ (s.line l).inForce.role = .fire ∧
      (s.line l).active = true
    (s.takes .supervisor b →
      exec (.fireReset .supervisor b) s = .next (s.refused .supervisor .fireReset .wrongPort)) ∧
    (s.takes .panel b →
      (b ≠ [] → exec (.fireReset .panel b) s = .next (s.refused .panel .fireReset .badLength)) ∧
      (b = [] → lineActive → exec (.fireReset .panel b) s = .next (s.refused .panel .fireReset .fireActive)) ∧
      (b = [] → ¬lineActive → s.fire = false →
        exec (.fireReset .panel b) s = s.replies .panel .fireReset .ok [] (s.framed .panel)) ∧
      (b = [] → ¬lineActive → s.fire = true → s.Sized → ∃ t,
        let stage := fun o z u => (s.outCfg o).function = .fan ∧ s.enabled z = true ∧ 1 ≤ u ∧ u ≤ s.fanStages z
        let unforced := fun o : Nat => if (s.out o).forced = .fire then Forced.none else (s.out o).forced
        exec (.fireReset .panel b) s = s.replies .panel .fireReset .ok [] t ∧ t.fire = false ∧
        t = { (s.framed .panel).raises [(.fireReset, 0, 0)] with
                fire := false, outputs := t.outputs, zones := t.zones } ∧
        (∀ o < 40, (t.out o).forced = unforced o) ∧
        (∀ o < 40, (s.runMode = .stopped ∨ ∀ z u, (s.outCfg o).ref = .zone z u → ¬stage o z u) →
          t.out o = { s.out o with forced := unforced o }) ∧
        (∀ o < 40, ∀ z u, (s.outCfg o).ref = .zone z u → s.runMode = .running → stage o z u →
          t.out o = OutputRec.asked s.now (s.outCfg o) (if u ≤ (s.zone z).vent.credited then some 0 else none)
            { s.out o with forced := unforced o }) ∧
        (∀ z < 16, let r := s.zone z
          t.zone z = if s.enabled z = false then r
            else if s.runMode = .running then { r with vent := { r.vent with stages := r.vent.credited } }
            else { r with light :=
              { r.light with present := s.site.stoppedLevel, granted := s.site.stoppedLevel } })))

/-- The held-open check (R13): every door that is OPEN or HELD_OPEN counts one open second, saturating, and a door OPEN
for its zone's held-open threshold becomes HELD_OPEN with DOOR_HELD_OPEN; no other door changes, in either run mode.
Several DOOR_HELD_OPEN are raised in ascending door number (the model's choice, log 33). -/
def Obligations.HeldOpenCheckCountsOpenSeconds : Prop :=
  ∀ s : State, s.Sized →
    let held := fun d => (s.door d).state == .opened &&
      decide ((s.door d).since + 100 * (s.zoneCfg (s.doorCfg d).zone).heldOpen ≤ s.now)
    exec .heldOpenCheck s = .next
      { s.raises (((List.range 48).filter held).map fun d => (.doorHeldOpen, d, (s.doorCfg d).zone)) with
          doors := s.doors.mapIdx fun d r =>
            if r.state = .opened ∨ r.state = .heldOpen then
              { r with openSeconds := min 65535 (r.openSeconds + 1), state := if held d = true then .heldOpen else r.state }
            else r }

/-! ### Measurement channels -/

/-- The conversion (R23) is the straight line through the two calibration points, its quotient truncated toward zero,
clamped to the range of the role. The channel sample (R21 to R27) of every channel: the code is recorded; a valid sample
joins a GOOD channel's history of four and their truncated mean is the value, and restarts a HELD or LOST channel with
the one value; an invalid sample makes a GOOD channel HELD, leaves a HELD one until its hold time has passed and then
LOST, its history emptied and its value 0; a channel that a write restarted takes its sample as power-on does, GOOD with
the one value or LOST; and a channel whose role is NONE keeps the code and nothing else. Each loss raises CHANNEL_LOST
and each recovery from LOST CHANNEL_RECOVERED, in channel order (the model's choice, log 33). The hold-time row, taken
apart from a sample, takes the same loss (the model's reading, log 5). -/
def Obligations.ChannelSampleJudgesEveryChannel : Prop :=
  (∀ (k : ChannelConfig) (code : Nat), k.codeLo < k.codeHi →
    let line := k.valueLo + (((code : Int) - k.codeLo) * (k.valueHi - k.valueLo)).tdiv ((k.codeHi : Int) - k.codeLo)
    (k.role = .zoneTemp ∨ k.role = .outdoorTemp → convert k code = max (-400) (min 600 line)) ∧
    (k.role = .air → convert k code = max 0 (min 1000 line)) ∧
    (k.role = .daylight → convert k code = max 0 (min 20000 line))) ∧
  (∀ (s : State) (codes : List (BitVec 12)), s.Sized →
    let code := fun c => (codes.getD c 0).toNat
    let used := fun c => (s.chanCfg c).role ≠ .unused
    let fresh := fun c => (s.chan c).fresh = true
    let valid := fun c => 16 ≤ code c ∧ code c ≤ 4079 ∧ (s.chanCfg c).codeLo < (s.chanCfg c).codeHi
    let value := fun c => convert (s.chanCfg c) (code c)
    let lost := fun c => used c ∧ ¬valid c ∧ (fresh c ∨ ((s.chan c).quality = .held ∧
      (s.chan c).invalidSince + 100 * (s.chanCfg c).hold ≤ s.now))
    let recovered := fun c => used c ∧ valid c ∧ ¬fresh c ∧ (s.chan c).quality = .lost
    let zoneOf := fun c =>
      if (s.chanCfg c).role = .zoneTemp ∨ (s.chanCfg c).role = .air then (s.chanCfg c).zone else 0xFFFF
    ∃ t, exec (.channelSample codes) s = .next t ∧
      t = { s.raises ((List.range 24).flatMap fun c =>
              if lost c then [(.channelLost, c, zoneOf c)]
              else if recovered c then [(.channelRecovered, c, (BitVec.ofInt 16 (value c)).toNat)] else []) with
              pins := { s.pins with codes := codes }, channels := t.channels } ∧
      ∀ c < 24,
        let r := s.chan c
        let history := (if r.history.length < 4 then r.history else r.history.drop (r.history.length - 3)) ++ [value c]
        (¬used c → t.chan c = { r with code := code c, history := [], value := 0, quality := .lost, fresh := false }) ∧
        (used c → valid c → ¬fresh c → r.quality = .good →
          t.chan c = { r with code := code c, history := history, value := history.sum.tdiv history.length }) ∧
        (used c → valid c → (fresh c ∨ r.quality ≠ .good) →
          t.chan c = { r with code := code c, history := [value c], value := value c, quality := .good, fresh := false }) ∧
        (used c → ¬valid c → ¬fresh c → r.quality = .good →
          t.chan c = { r with code := code c, quality := .held, invalidSince := s.now }) ∧
        (used c → ¬valid c → ¬fresh c → r.quality ≠ .good → ¬lost c → t.chan c = { r with code := code c }) ∧
        (lost c → t.chan c = { r with code := code c, history := [], value := 0, quality := .lost, fresh := false })) ∧
  (∀ (s : State) (c : Fin 24), s.Sized → (s.chanCfg c).role ≠ .unused → (s.chan c).fresh = false →
    (s.chan c).quality = .held →
    (s.now < (s.chan c).invalidSince + 100 * (s.chanCfg c).hold → exec (.channelHoldExpiry c) s = .next s) ∧
    ((s.chan c).invalidSince + 100 * (s.chanCfg c).hold ≤ s.now → exec (.channelHoldExpiry c) s = .next
      { s.raises [(.channelLost, c,
          if (s.chanCfg c).role = .zoneTemp ∨ (s.chanCfg c).role = .air then (s.chanCfg c).zone else 0xFFFF)] with
          channels := s.channels.set c { s.chan c with history := [], value := 0, quality := .lost } }))

/-- CALIBRATE (R28): the refusals in their order, and the two points replaced and the history emptied, the value, quality
and invalid since left as they stand. -/
def Obligations.CalibrateReplacesThePoints : Prop :=
  ∀ (s : State) (p : Port) (b : List Byte), s.takes p b →
    (s.authority.holder ≠ some p → exec (.calibrate p b) s = .next (s.refused p .calibrate .notHolder)) ∧
    (s.authority.holder = some p →
      (b.length ≠ 9 → exec (.calibrate p b) s = .next (s.refused p .calibrate .badLength)) ∧
      (∀ c lh ll vh vl hh hl wh wl : Byte, b = [c, lh, ll, vh, vl, hh, hl, wh, wl] →
        let lo := 256 * lh.toNat + ll.toNat
        let hi := 256 * hh.toNat + hl.toNat
        ((23 < c.toNat ∨ 4095 < lo ∨ 4095 < hi ∨ hi ≤ lo) →
          exec (.calibrate p b) s = .next (s.refused p .calibrate .badReference)) ∧
        (c.toNat ≤ 23 → lo < hi → hi ≤ 4095 →
          exec (.calibrate p b) s = s.replies p .calibrate .ok []
            { s.framed p with
                settings := { s.settings with channels := s.settings.channels.modify c.toNat fun r =>
                  { r with codeLo := lo, valueLo := (vh ++ vl).toInt, codeHi := hi, valueHi := (wh ++ wl).toInt } }
                channels := s.channels.modify c.toNat fun r => { r with history := [] } })))

/-! ### Zones -/

/-- Occupancy, target resolution and the arrival checks of the zone evaluation (R36 to R46, R74 to R78): while STOPPED
nothing runs; while RUNNING each enabled zone's occupancy moves by one transition on its activity, a zone without an
occupancy source by the settings (log 16) staying OCCUPIED, its mark taken and set again where a LEVEL line holds it
(the model's reading, log 17); its programme is resolved from CURRENT, or from INCOMING during a handover, or from its
idle defaults where that context does not list it, with the highest running preheat's setpoint; a zone that is not
enabled is left alone. During a handover each participant not arrived whose condition holds arrives and is counted once,
and the report that reaches the barrier target completes the handover; no more than the target ever arrive, by the
barrier law that every step keeps. Zones are taken in ascending order (the model's choice, log 42). The readings the
evaluation takes are formed from the GOOD and HELD channels (R29 to R31): a zone's temperature is the value of its one,
or the mean of its two truncated toward zero; the outdoor temperature is the design outdoor temperature, marked
substituted, where the channel is LOST or there is none; daylight and a zone's air are their one channel's value, or
LOST. -/
def Obligations.EvaluationMovesOccupancyAndProgramme : Prop :=
  (∀ s : State, s.runMode = .stopped → exec .zoneEvaluation s = .next s) ∧
  (∀ s : State, s.Sized → s.runMode = .running → ∃ t, exec .zoneEvaluation s = .next t ∧
    t = { s with zones := t.zones, activity := t.activity, outputs := t.outputs, programme := t.programme,
                 doors := t.doors, locks := t.locks, link := t.link } ∧
    (s.settled → t.programme = s.programme ∧ t.doors = s.doors ∧ t.locks = s.locks) ∧
    (∀ z < 16,
      let r := s.zone z
      let c := s.zoneCfg z
      let active := s.activity.getD z false = true ∨ s.levelActivity z = true ∨ 0 < s.doorsOpen z
      let o := (t.zone z).occ
      let idle : ProgFields :=
        { source := .idle, occLevel := c.idleLevel, vacLevel := c.idleLevel, setpoint := c.idleSetpoint, setback := 0,
          heat := true, ventMin := 0, preheat := s.preheatFor z }
      let listed := fun (src : Source) (e : ZoneEntry) => (
        { source := src, occLevel := e.occLevel, vacLevel := e.vacLevel, setpoint := e.setpoint, setback := e.setback,
          heat := e.heat, ventMin := e.ventMin, preheat := s.preheatFor z } : ProgFields)
      (c.enabled = false → t.zone z = r ∧ t.activity.getD z false = s.activity.getD z false) ∧
      (c.enabled = true → t.activity.getD z false = s.levelActivity z ∧ (s.settled → (t.zone z).marks = r.marks) ∧
        (s.hasOccupancySource z = false →
          o = { r.occ with state := .occupied, holdStart := s.now, activity := true, rise := false }) ∧
        (s.hasOccupancySource z = true → active →
          o = { r.occ with state := .occupied, holdStart := s.now, activity := true,
                           rise := decide (r.occ.state ≠ .occupied) }) ∧
        (s.hasOccupancySource z = true → ¬active → o.activity = false ∧ o.rise = false ∧ o.holdStart = r.occ.holdStart ∧
          (r.occ.state = .vacant → o.state = .vacant) ∧
          (r.occ.state = .occupied → s.now < r.occ.holdStart + 6000 * c.occHold → o.state = .occupied) ∧
          (r.occ.state = .occupied → r.occ.holdStart + 6000 * c.occHold ≤ s.now → 0 < c.graceTime →
            o.state = .grace ∧ o.graceStart = s.now) ∧
          (r.occ.state = .occupied → r.occ.holdStart + 6000 * c.occHold ≤ s.now → c.graceTime = 0 → o.state = .vacant) ∧
          (r.occ.state = .grace → s.now < r.occ.graceStart + 100 * c.graceTime → o.state = .grace) ∧
          (r.occ.state = .grace → r.occ.graceStart + 100 * c.graceTime ≤ s.now → o.state = .vacant)) ∧
        (∀ n, s.programme = .current n → s.entryFor n z = none → (t.zone z).prog = idle) ∧
        (∀ n, s.programme = .current n → ∀ e, s.entryFor n z = some e → (t.zone z).prog = listed (.current n) e) ∧
        (∀ h, s.programme = .handover h → s.entryFor h.incoming z = none → (t.zone z).prog = idle) ∧
        (∀ h, s.programme = .handover h → ∀ e, s.entryFor h.incoming z = some e →
          (t.zone z).prog = listed (.incoming h.incoming) e ∨
          (t.settled ∧ (t.zone z).prog = listed (.current h.incoming) e)))) ∧
    (∀ h, s.programme = .handover h →
      let zones := (List.range 16).filter s.enabled
      let light := decide (60 * h.ramp ≤ h.elapsed)
      let heat := fun z => match s.zoneTemp z with
        | none => true
        | some a => !(t.zone z).prog.heat || decide ((t.zone z).heat.setpoint - 10 ≤ a)
      let vent := fun z => decide (min (t.zone z).prog.ventMin (s.fanStages z) ≤ t.grantedFanStage z) &&
        (t.zone z).vent.purgeEnd.isNone
      let newly := (zones.filter fun z => light && !(s.zone z).marks.light).length +
        (zones.filter fun z => heat z && !(s.zone z).marks.heat).length +
        (zones.filter fun z => vent z && !(s.zone z).marks.vent).length
      let marked := ∀ z ∈ zones, (t.zone z).marks =
        { light := (s.zone z).marks.light || light, heat := (s.zone z).marks.heat || heat z,
          vent := (s.zone z).marks.vent || vent z }
      (h.count + newly < h.target → t.programme = .handover { h with count := h.count + newly } ∧ t.doors = s.doors ∧
        t.locks = s.locks ∧ marked) ∧
      (s.BarrierLaw → h.count + newly ≤ h.target) ∧
      (0 < newly → h.count + newly = h.target → t.programme = .current h.incoming ∧ t.doors = s.shiftReset ∧
        t.locks = s.unflagged ∧ marked))) ∧
  (∀ s : State,
    let heard := fun (r : ChannelRole) => (List.range 24).filter fun c =>
      (s.chanCfg c).role == r && (s.chan c).quality != .lost
    let one := fun cs : List Nat => match cs with | [] => none | c :: _ => some (s.chan c).value
    (∀ z, s.zoneTemp z = match (heard .zoneTemp).filter fun c => (s.chanCfg c).zone == z with
      | [] => none
      | [c] => some (s.chan c).value
      | c :: d :: _ => some (((s.chan c).value + (s.chan d).value).tdiv 2)) ∧
    (∀ z, s.zoneAir z = one ((heard .air).filter fun c => (s.chanCfg c).zone == z)) ∧ s.daylight = one (heard .daylight) ∧
    (∀ c, (heard .outdoorTemp).head? = some c → s.outdoor = (s.chan c).value ∧ s.outdoorSubstituted = false) ∧
    (heard .outdoorTemp = [] → s.outdoor = s.site.designOutdoor ∧ s.outdoorSubstituted = true))

/-- The controllers' steps of the same evaluation (R89 to R97, R102, R105 to R113, R120 to R126), in a zone whose
evaluation no completing handover precedes, by the occupancy and programme it has just found: light from base, daylight,
door floor, override, egress floor and fire, the granted level from the trim watts last granted, and the present level
by fire, handover ramp, floor guard or normal ramp; the effective setpoint, the temperature stage, the cold condition,
the door debt and its stage, the frost guard, the units requested and their tiers, and the curtain requests; the air
alarm, the air stage's rise and fall, the credited stage, the non-air part and the fan stages requested with their
tiers. Every output so requested answers as R144 and R149 have it: at tier 0 granted as it arises and ON whatever its
hold, its request withdrawn without its grant unless MIN_ON runs, and at tiers 1 to 3 waiting for the round; an output
that no controller of an enabled zone requests, a unit or stage above a gap among them (R104, R119), keeps its record.
Alarms set and cleared raise AIR_ALARM and AIR_CLEAR, in zone order, with HANDOVER_DONE and its releases after the zone
that completes a handover (the model's choice of order, logs 33 and 42). -/
def Obligations.EvaluationRunsTheControllers : Prop :=
  (∀ (s t : State) (z : Nat), s.Sized → s.runMode = .running → z < 16 → s.enabled z = true →
    exec .zoneEvaluation s = .next t → (s.settled ∨ ¬t.settled) →
    let c := s.zoneCfg z
    let r := s.zone z
    let x := t.zone z
    let occ := x.occ.state
    let p := x.prog
    let n := s.doorsOpen z
    let base := match occ with
      | .occupied => p.occLevel
      | .grace => max p.vacLevel (p.occLevel / 2)
      | .vacant => p.vacLevel
    let credit := match s.daylight with
      | none => 0
      | some l => c.dayFactor * min l.toNat s.site.dayFull / s.site.dayFull
    let t1 := base * (100 - credit) / 100
    let t2 := (s.override z .light).getD (if 0 < n then max t1 c.doorLevel else t1)
    let floor := if occ = .vacant then 0 else c.floor
    let part := if s.fire = true ∨ (s.override z .light).isSome = true then 0
      else min c.trimAllow (x.light.target - floor)
    let kept : Int := (p.setpoint : Int) - if occ = .vacant then (p.setback : Int) else 0
    let sp : Int := match p.preheat with
      | some h => max kept h
      | none => kept
    let count := s.heaterUnits z
    let fans := s.fanStages z
    let level := fun k : Nat => if k ≤ 1 then s.site.l1 else if k = 2 then s.site.l2 else s.site.l3
    let since := if r.vent.alarm = true ∧ x.vent.alarm = false then s.now else r.vent.since
    let ramp := match s.programme with
      | .handover h => if h.elapsed < 60 * h.ramp then some h else none
      | _ => none
    (x.light.target = if s.fire = true then 100 else max t2 floor) ∧
    x.light.floorPart = floor ∧ x.light.untrim = x.light.target - part ∧
    x.light.tier0 = (c.rated * x.light.untrim + 99) / 100 ∧
    x.light.trim = (c.rated * x.light.target + 99) / 100 - (c.rated * x.light.untrim + 99) / 100 ∧
    x.light.grantedTrim = r.light.grantedTrim ∧ x.light.rated = c.rated ∧ x.light.trimTier = c.trimTier ∧
    (x.light.granted = if c.rated = 0 ∨ x.light.trim ≤ r.light.grantedTrim then x.light.target
      else min x.light.target (x.light.untrim + r.light.grantedTrim * 100 / c.rated)) ∧
    (s.fire = true → x.light.present = 100) ∧
    (∀ h, ramp = some h → s.fire = false → let p0 := h.startLevels.getD z 0
      (x.light.present : Int) =
        max ((p0 : Int) + (((x.light.granted : Int) - p0) * h.elapsed).tdiv (60 * h.ramp)) floor) ∧
    (s.fire = false → ramp = none → x.light.present =
      if x.occ.rise = true ∧ r.light.present < floor then floor
      else if r.light.present < x.light.granted then min x.light.granted (r.light.present + c.rampRate)
      else max x.light.granted (r.light.present - c.rampRate)) ∧
    x.heat.setpoint = sp ∧ x.heat.cold = decide (s.outdoor ≤ sp - 50) ∧
    (x.heat.stage = match s.zoneTemp z with
      | none => 0
      | some a =>
        if p.heat = false then 0
        else if ((r.heat.stage : Int) + 1) * c.heatBand ≤ sp - a ∧ r.heat.stage < count then r.heat.stage + 1
        else if sp - a ≤ ((r.heat.stage : Int) - 1) * c.heatBand ∧ 0 < r.heat.stage then r.heat.stage - 1
        else r.heat.stage) ∧
    (x.heat.debt = if n = 0 then r.heat.debt - c.debtDecay
      else if x.heat.cold = true then min 3600 (r.heat.debt + n) else r.heat.debt) ∧
    (x.heat.debtStage = if x.heat.debt < c.debtStep then 0 else if x.heat.debt < 2 * c.debtStep then 1 else 2) ∧
    (x.heat.frost = match s.zoneTemp z with | some a => decide (a < 50) | none => decide (s.outdoor < 50)) ∧
    (x.heat.units = if s.fire = true then 0 else
      let asked := match s.override z .heat with
        | some v => min v count
        | none => min count (x.heat.stage + if p.heat = true then x.heat.debtStage else 0)
      if x.heat.frost = true ∧ 1 ≤ count then max 1 asked else asked) ∧
    (∀ o < 40, ∀ y u, (s.outCfg o).ref = .zone y u → (s.outCfg o).function = .heater → y = z → 1 ≤ u → u ≤ count →
      (t.out o).request = if x.heat.units < u then none
        else if u = 1 ∧ x.heat.frost = true then some 0 else some (s.outCfg o).tier) ∧
    (∀ o < 40, ∀ d, (s.outCfg o).ref = .door d → (s.outCfg o).function = .curtain → (s.doorCfg d).zone = z →
      (t.out o).request = if ((s.door d).state = .opened ∨ (s.door d).state = .heldOpen) ∧ x.heat.cold = true ∧
        p.heat = true ∧ s.fire = false then some (s.outCfg o).tier else none) ∧
    (x.vent.alarm = match s.zoneAir z with
      | none => r.vent.alarm
      | some a => if r.vent.alarm = true then decide ((s.site.la * 90 / 100 : Nat) ≤ a) else decide ((s.site.la : Int) ≤ a)) ∧
    (x.vent.air = if x.vent.alarm = true then fans else match s.zoneAir z with
      | none => min s.site.lostStage fans
      | some a =>
        if (level (r.vent.air + 1) : Int) ≤ a ∧ r.vent.air < fans then r.vent.air + 1
        else if 0 < r.vent.air ∧ a < (level r.vent.air * 90 / 100 : Nat) ∧ since + 100 * s.site.downDelay ≤ s.now then
          r.vent.air - 1
        else r.vent.air) ∧
    x.vent.since = (if x.vent.air = r.vent.air then since else s.now) ∧
    x.vent.purgeEnd = r.vent.purgeEnd.filter (fun e => s.now < e) ∧
    (x.vent.credited = if 0 < s.site.creditDoors ∧ s.site.creditDoors ≤ n ∧ x.vent.alarm = false then x.vent.air - 1
      else x.vent.air) ∧
    (x.vent.nonAir = (s.override z .vent).getD (max p.ventMin
      (if x.vent.purgeEnd = none then 0 else if s.site.purgeCold ≤ s.outdoor then 3 else 1))) ∧
    (x.vent.stages = if s.fire = false then min (max x.vent.credited x.vent.nonAir) fans
      else match s.site.fireFan with | .off => 0 | .exhaust => fans) ∧
    (∀ o < 40, ∀ y u, (s.outCfg o).ref = .zone y u → (s.outCfg o).function = .fan → y = z → 1 ≤ u → u ≤ fans →
      (t.out o).request = if x.vent.stages < u then none
        else if s.fire = true ∨ u ≤ x.vent.credited then some 0 else some 1)) ∧
  (∀ s t : State, s.Sized → s.runMode = .running → exec .zoneEvaluation s = .next t → ∀ o < 40,
    t.out o = if s.served o = true then (s.out o).asked s.now (s.outCfg o) (t.out o).request else s.out o) ∧
  (∀ s t : State, s.Sized → s.runMode = .running → exec .zoneEvaluation s = .next t →
    let alarms := fun zs : List Nat => (zs.filter s.enabled).flatMap fun z =>
      let reading := ((s.zoneAir z).getD 0).toNat
      if (s.zone z).vent.alarm = false ∧ (t.zone z).vent.alarm = true then [(EventKind.airAlarm, z, reading)]
      else if (s.zone z).vent.alarm = true ∧ (t.zone z).vent.alarm = false then [(.airClear, z, reading)] else []
    ((s.settled ∨ ¬t.settled) → t.link = (s.raises (alarms (List.range 16))).link) ∧
    (∀ h, s.programme = .handover h → t.settled → ∃ k < 16, t.link = (s.raises (alarms (List.range (k + 1)) ++
      (.handoverDone, h.incoming, h.elapsed) :: s.handoverReleases ++ alarms (List.range' (k + 1) (15 - k)))).link))

/-- The timed rows of one zone, and PURGE (R40, R121, R123). The rows make the one transition the zone evaluation also
makes at that time (log 5; each by itself, with down-delay 0 too, the model's choice, log 51); a zone's occupancy source
is by the settings (log 16). PURGE refuses a zone that does not exist or is not enabled and a part that is STOPPED, and
otherwise sets the purge end anew by the context the zone record names, 10 min where it is IDLE. -/
def Obligations.ZoneTimersAndPurgeRequests : Prop :=
  (∀ (s : State) (z : Fin 16), s.Sized → s.runMode = .running → s.enabled z = true →
    let r := s.zone z
    let c := s.zoneCfg z
    (s.hasOccupancySource z = true → s.zoneActive z = false → r.occ.state = .occupied →
      exec (.occupancyHoldExpiry z) s = .next (if r.occ.holdStart + 6000 * c.occHold ≤ s.now then
        { s with zones := s.zones.set z { r with occ :=
            if c.graceTime = 0 then { r.occ with state := .vacant }
            else { r.occ with state := .grace, graceStart := s.now } } } else s)) ∧
    (s.zoneActive z = false → r.occ.state = .grace →
      exec (.graceExpiry z) s = .next (if r.occ.graceStart + 100 * c.graceTime ≤ s.now then
        { s with zones := s.zones.set z { r with occ := { r.occ with state := .vacant } } } else s)) ∧
    (∀ a, s.zoneAir z = some a → r.vent.alarm = false →
      exec (.downDelayExpiry z) s = .next (if 0 < r.vent.air ∧
          a < ((if r.vent.air = 1 then s.site.l1 else if r.vent.air = 2 then s.site.l2 else s.site.l3) * 90 / 100 : Nat) ∧
          r.vent.since + 100 * s.site.downDelay ≤ s.now then
        { s with zones := s.zones.set z { r with vent := { r.vent with air := r.vent.air - 1, since := s.now } } } else s)) ∧
    (∀ e, r.vent.purgeEnd = some e → exec (.purgeEnd z) s = .next (if e ≤ s.now then
        { s with zones := s.zones.set z { r with vent := { r.vent with purgeEnd := none } } } else s))) ∧
  (∀ (s : State) (p : Port) (b : List Byte), s.takes p b → s.Sized →
    (b.length ≠ 1 → exec (.purge p b) s = .next (s.refused p .purge .badLength)) ∧
    (∀ z : Byte, b = [z] →
      let r := s.zone z.toNat
      ((15 < z.toNat ∨ s.enabled z.toNat = false) → exec (.purge p b) s = .next (s.refused p .purge .badReference)) ∧
      (z.toNat ≤ 15 → s.enabled z.toNat = true → s.runMode = .stopped →
        exec (.purge p b) s = .next (s.refused p .purge .notRunning)) ∧
      (∀ minutes, z.toNat ≤ 15 → s.enabled z.toNat = true → s.runMode = .running →
        ((r.prog.source = .idle ∧ minutes = 10) ∨
          ∃ n k, (r.prog.source = .current n ∨ r.prog.source = .incoming n) ∧ s.context n = some k ∧ minutes = k.purgeDur) →
        let r' : ZoneRec := { r with vent := { r.vent with purgeEnd := some (s.now + 6000 * minutes) } }
        exec (.purge p b) s = s.replies p .purge .ok [] { s.framed p with zones := s.zones.set z.toNat r' })))

/-! ### Demand window and load allocation -/

/-- An allocation round (R133 to R143, R145): a silent meter becomes LOST with METER_LOST, and the fallback budget
stands while it is LOST, P_allow and M keeping their last values (the model's reading, log 24); otherwise P_allow, M,
Cavg, U_est and B are formed, with OVER_TARGET at the window's first round that finds E_used at its target; every tier 0
load is granted, a grant that MIN_ON keeps counting as one (log 21), with OVERRUN where T0 exceeds B; then tiers 1 to 3
are visited in turn, each from its rotation pointer's entry on, and each entry taken while no earlier tier was short and
its watts fit what is left: a LIGHT entry in part, after which the tier's later entries are refused, a zone's fan stages
in a chain that the first one not granted ends. The period measures are cleared and the next round falls P seconds on.
While STOPPED nothing happens. The order in which METER_LOST, OVER_TARGET and OVERRUN are raised is the model's (log
33); where a fan chain is taken (log 23), that a trim granted 0 W is partly granted (log 49) and the tier by which an
entry is visited (logs 44 and 47) are its readings. Every load output follows its grant (R149): OFF and unforced it goes
ON at a tier 0 grant, or at another where no hold runs, with its stamp and MIN_ON; ON it goes OFF, with its stamp and
MIN_OFF, where it is not granted. Nothing else of an output or a zone changes but the granted trim watts. -/
def Obligations.RoundKeepsTheBudgetAndTheTiers : Prop :=
  (∀ s : State, s.runMode = .stopped → exec .allocationRound s = .next s) ∧
  (∀ (s : State) (w : Window), s.Sized → s.runMode = .running → s.alloc.window = some w →
    ∃ t, exec .allocationRound s = .next t ∧
    t = { s with outputs := t.outputs, zones := t.zones, alloc := t.alloc, link := t.link } ∧
    let cap := min (1000 * (((s.programme.inForce.bind s.context).map Context.cap).getD 0)) (1000 * s.site.ceiling)
    let capEff := if s.shed = true then cap * (100 - s.site.shedPct) / 100 else cap
    let target := capEff * w.len / 3600
    let used := w.pulses * s.site.pulseWeight
    let cavg := s.alloc.wattSeconds / s.site.period
    let silent := s.site.meterSilence ≠ 0 ∧
      (∃ a, s.alloc.lastPulse = some a ∧ a + 100 * s.site.meterSilence ≤ s.now) ∧ 0 < cavg
    let turns := s.alloc.meterLost = false ∧ silent
    let lost := s.alloc.meterLost = true ∨ silent
    let allow := if lost then s.alloc.record.allow else if target ≤ used then 0 else
      min (1000 * s.site.ceiling) ((target - used) * 3600 / max (w.len - s.windowTime w) 60)
    let measured := if lost then s.alloc.record.measured else s.alloc.pulses * s.site.pulseWeight * 3600 / s.site.period
    let uEst := if lost then s.alloc.uEst else (3 * s.alloc.uEst + (measured - cavg)) / 4
    let budget := if lost then capEff - 1000 * s.site.assumedBase else allow - uEst
    let reached := ¬lost ∧ target ≤ used ∧ w.overRaised = false
    let tier0 := (((List.range 40).filter s.grantedAtZero).map fun o => (s.outCfg o).watts).sum +
      (((List.range 16).filter s.enabled).map fun z => (s.zone z).light.tier0).sum
    let a := t.alloc.record
    a = { target := target, used := used, allow := allow, measured := measured, cavg := cavg, uEst := uEst,
          budget := budget, tier0 := tier0, short1 := a.short1, short2 := a.short2, short3 := a.short3,
          meterLost := decide lost, shed := s.shed } ∧
    t.alloc = { s.alloc with
      window := some { w with target := target, overRaised := w.overRaised || decide reached }
      nextRound := some (s.now + 100 * s.site.period), pulses := 0, wattSeconds := 0, uEst := uEst
      meterLost := decide lost, record := a } ∧
    t.link = (s.raises (
      (if turns then [(EventKind.meterLost, s.meterLine.getD 255,
        min 65535 ((s.alloc.lastPulse.map fun x => (s.now - x) / 100).getD 0))] else []) ++
      (if reached then [(.overTarget, 0, s.windowTime w)] else []) ++
      (if budget < tier0 then [(.overrun, 0, min 65535 ((tier0 - budget) / 1000))] else []))).link ∧
    (∀ o < 40, s.isLoad o = false → t.out o = s.out o) ∧
    (∀ o < 40, s.isLoad o = true →
      let r := s.out o
      let g := (t.out o).grant
      (g = .none → t.out o = if r.drive = true then
          { r with grant := .none, drive := false, lastOff := some s.now
                   hold := if (s.outCfg o).minOff = 0 then .none else .minOff }
        else { r with grant := .none }) ∧
      (g ≠ .none → t.out o = if r.drive = false ∧ r.forced = .none ∧ (g = .tier0 ∨ r.hold = .none) then
          { r with grant := g, drive := true, lastOn := some s.now
                   hold := if (s.outCfg o).minOn = 0 then .none else .minOn }
        else { r with grant := g })) ∧
    (∀ z < 16, t.zone z = { s.zone z with
      light := { (s.zone z).light with grantedTrim := (t.zone z).light.grantedTrim } }) ∧
    (∀ z < 16, s.enabled z = false → t.zone z = s.zone z) ∧
    (∀ o < 40, s.grantedAtZero o = true → (t.out o).grant = .tier0) ∧
    (let visits : Nat → List Load := fun k =>
       s.tierVisits k (match k with | 1 => s.alloc.rot1 | 2 => s.alloc.rot2 | _ => s.alloc.rot3)
     let short : Nat → Bool := fun k => match k with | 1 => a.short1 | 2 => a.short2 | _ => a.short3
     let taken : Load → Nat := fun
       | .switched o => if (t.out o).grant = .granted then (s.outCfg o).watts else 0
       | .light z => (t.zone z).light.grantedTrim
     let left : Nat → Nat → Nat := fun k i => budget - tier0 -
       (((([1, 2, 3].filter fun j => j < k).flatMap visits) ++ (visits k).take i).map taken).sum
     (∀ o < 40, s.isLoad o = true → s.grantedAtZero o = false → (∀ k ∈ [1, 2, 3], .switched o ∉ visits k) →
       (t.out o).grant = .none) ∧
     (∀ z < 16, s.enabled z = true → (∀ k ∈ [1, 2, 3], .light z ∉ visits k) → (t.zone z).light.grantedTrim = 0) ∧
     ∀ k ∈ [1, 2, 3],
       let blocked := ∃ j ∈ [1, 2, 3], j < k ∧ short j = true
       let partly := fun z => (t.zone z).light.grantedTrim < (s.zone z).light.trim
       let ended := fun i o => k = 1 ∧ (s.chainOf o).isSome = true ∧ ∃ x ∈ (visits k).take i, ∃ o', x = .switched o' ∧
         s.chainOf o' = s.chainOf o ∧ (t.out o').grant = .none
       (∀ i z, (visits k)[i]? = some (.light z) →
         (t.zone z).light.grantedTrim = if short 1 = true ∧ 1 < k ∨ short 2 = true ∧ 2 < k then 0
           else min (s.zone z).light.trim (left k i)) ∧
       (∀ i o, (visits k)[i]? = some (.switched o) →
         ((t.out o).grant = .granted ↔ (s.out o).hold ≠ .minOff ∧ ¬blocked ∧ ¬ended i o ∧
           (∀ z, .light z ∈ (visits k).take i → ¬partly z) ∧ (s.outCfg o).watts ≤ left k i) ∧
         ((t.out o).grant = .granted ∨ (t.out o).grant = .none)) ∧
       (short k = true ↔ (∃ z, .light z ∈ visits k ∧ partly z) ∨
         ∃ i o, (visits k)[i]? = some (.switched o) ∧ (t.out o).grant = .none ∧ (s.out o).hold ≠ .minOff ∧
           ¬ended i o)))

/-- The meter, the controlled energy and the window's end (R132, R137, R153): the meter test makes a silent meter LOST
with METER_LOST only while controlled load was drawing, here as a row taken apart from a round (the model's reading, log
5; the round's own test is stated with the round); each second while RUNNING adds the watts of the load outputs that are
ON and of the enabled zones' present levels, by the rated watts in force (R87; log 47); a window whose time base has
reached its end is recorded with its final target, WINDOW_CLOSED is raised, each rotation pointer advances by one, and
the next window opens at once. -/
def Obligations.MeterEnergyAndWindowEnd : Prop :=
  (∀ s : State, s.runMode = .running → s.alloc.meterLost = false →
    exec .meterSilenceExpiry s = .next (
      if s.site.meterSilence ≠ 0 ∧ (∃ a, s.alloc.lastPulse = some a ∧ a + 100 * s.site.meterSilence ≤ s.now) ∧
          0 < s.alloc.wattSeconds / s.site.period then
        { s.raises [(.meterLost, s.meterLine.getD 255,
              min 65535 ((s.alloc.lastPulse.map fun a => (s.now - a) / 100).getD 0))] with
            alloc := { s.alloc with meterLost := true } }
      else s)) ∧
  (∀ s : State, (s.runMode = .stopped ∨ s.alloc.meterLost = true) → exec .meterSilenceExpiry s = .next s) ∧
  (∀ s : State, exec .controlledEnergySecond s = .next (
    if s.runMode = .running then
      { s with alloc := { s.alloc with wattSeconds := s.alloc.wattSeconds +
          ((List.range 40).map fun o =>
            if s.isLoad o = true ∧ (s.out o).drive = true then (s.outCfg o).watts else 0).sum +
          ((List.range 16).map fun z =>
            if s.enabled z = true then ((s.zone z).light.rated * (s.zone z).light.present + 99) / 100 else 0).sum } }
    else s)) ∧
  (∀ (s : State) (w : Window), s.alloc.window = some w → (s.runMode = .stopped ∨ s.windowTime w < w.len) →
    exec .windowEnd s = .next s) ∧
  (∀ (s : State) (w : Window), s.runMode = .running → s.alloc.window = some w → w.len ≤ s.windowTime w →
    let target := s.capEff * w.len / 3600
    let used := w.pulses * s.site.pulseWeight
    let next := fun k ptr => if (s.rotationList k).length = 0 then 0 else (ptr + 1) % (s.rotationList k).length
    ∃ w', exec .windowEnd s = .next
        { s.raises [(.windowClosed, 0, min 65535 (used * 100 / target))] with
            alloc := { s.alloc with
              window := some w'
              last := { used := used, target := target, exceeded := decide (target < used), len := w.len,
                        ran := s.windowTime w, short := false }
              rot1 := next 1 s.alloc.rot1, rot2 := next 2 s.alloc.rot2, rot3 := next 3 s.alloc.rot3 } } ∧
      w'.pulses = 0 ∧ w'.overRaised = false ∧ (w'.base = .site ↔ s.clock.valid = true) ∧
      (s.clock.valid = false → w'.start = s.now ∧ w'.len = s.site.windowLen) ∧
      (∀ k, s.clock.valid = true → s.site.windowLen = 60 * k → 5 ≤ k → s.clock.second = 0 → s.clock.minute % k = 0 →
        s.clock.minute < 10080 → w'.start = 60 * s.clock.minute ∧
        w'.len = min (60 * k) (604800 - 60 * s.clock.minute)))

/-! ### Outputs -/

/-- The ends of holds and tests, the pattern generators, the pins and the dimming channels (R149, R150, R154, R155,
R157): MIN_ON that has run its time ends, and the grant of an output no longer requested lapses, the output going OFF
into MIN_OFF; MIN_OFF that has run its time ends; a test at its end leaves a load output OFF with its last off time
stamped and MIN_OFF begun; each generator's half ends. A pin under a test is ON; otherwise it follows a load output's
drive, a lighting contactor's demand (its zone's level above 0), a beacon's pattern or commanded value, a SPARE output's
commanded value. A beacon shows FAST in fire mode and at its zone's air alarm, SLOW at its door's HELD_OPEN, and else
NONE. A dimming channel carries the level of the enabled zone that names it, and 0 where none does. -/
def Obligations.HoldsTestsAndPatternsEnd : Prop :=
  (∀ (s : State) (o : Fin 40) (a : Nat), s.Sized → (s.out o).hold = .minOn → (s.out o).lastOn = some a →
    let r := s.out o
    let c := s.outCfg o
    (s.now < a + 100 * c.minOn → exec (.minOnEnd o) s = .next s) ∧
    (a + 100 * c.minOn ≤ s.now → r.request ≠ none →
      exec (.minOnEnd o) s = .next { s with outputs := s.outputs.set o { r with hold := .none } }) ∧
    (a + 100 * c.minOn ≤ s.now → r.request = none → r.drive = true →
      let r' : OutputRec := { r with grant := .none, drive := false, lastOff := some s.now,
                                     hold := if c.minOff = 0 then .none else .minOff }
      exec (.minOnEnd o) s = .next { s with outputs := s.outputs.set o r' })) ∧
  (∀ (s : State) (o : Fin 40) (a : Nat), s.Sized → (s.out o).hold = .minOff → (s.out o).lastOff = some a →
    exec (.minOffEnd o) s = .next (if a + 100 * (s.outCfg o).minOff ≤ s.now then
      { s with outputs := s.outputs.set o { s.out o with hold := .none } } else s)) ∧
  (∀ (s : State) (o : Fin 40) (e : Nat), s.Sized → (s.out o).testEnd = some e →
    let r' : OutputRec := if s.isLoad o = true then
        { s.out o with testEnd := none, drive := false, lastOff := some s.now,
                       hold := if (s.outCfg o).minOff = 0 then .none else .minOff }
      else { s.out o with testEnd := none }
    exec (.outputTestEnd o) s = .next (if e ≤ s.now then { s with outputs := s.outputs.set o r' } else s)) ∧
  (∀ s : State, exec (.beaconPatternHalf .slow) s = .next { s with slowOn := !s.slowOn } ∧
    exec (.beaconPatternHalf .fast) s = .next { s with fastOn := !s.fastOn }) ∧
  (∀ (s : State) (o : Nat), o < 40 →
    let r := s.out o
    let c := s.outCfg o
    (r.testEnd ≠ none → s.pinOn o = true) ∧
    (r.testEnd = none →
      (s.isLoad o = true → s.pinOn o = r.drive) ∧
      (∀ z u, c.ref = .zone z u → c.function = .lightContactor → s.pinOn o = decide (0 < (s.zone z).light.present)) ∧
      (c.function = .beacon → s.pinOn o = match s.pattern o with
        | .fast => s.fastOn | .slow => s.slowOn | .none => r.commanded) ∧
      (c.function = .spare → s.pinOn o = r.commanded)) ∧
    (c.function ≠ .beacon → s.pattern o = .none) ∧
    (c.function = .beacon →
      (s.fire = true → s.pattern o = .fast) ∧
      (∀ z u, c.ref = .zone z u → s.fire = false →
        s.pattern o = if (s.zone z).vent.alarm = true then .fast else .none) ∧
      (∀ d, c.ref = .door d → s.fire = false →
        s.pattern o = if (s.door d).state = .heldOpen then .slow else .none))) ∧
  (∀ (s : State) (k : Nat),
    ((∀ z < 16, s.enabled z = true → (s.zoneCfg z).dimming ≠ some k) → s.dimLevel k = 0) ∧
    (∀ z < 16, s.enabled z = true → (s.zoneCfg z).dimming = some k →
      (∀ y < 16, y ≠ z → (s.zoneCfg y).dimming ≠ some k) → s.dimLevel k = (s.zone z).light.present))

/-- OUTPUT SET and OUTPUT TEST (R156, R157) by their tables: the refusals in their order; the commanded value recorded
for a BEACON or SPARE output, driven at once where no pattern and no test drives the pin; a test taken with its end set
and its pin ON, clamped to 1 to 60 s, a load output's hold cleared and its last on time left. -/
def Obligations.OutputsAreSetAndTested : Prop :=
  ∀ (s : State) (p : Port) (b : List Byte), s.takes p b → s.Sized → s.authority.holder = some p →
    (b.length ≠ 2 → exec (.outputSet p b) s = .next (s.refused p .outputSet .badLength) ∧
      exec (.outputTest p b) s = .next (s.refused p .outputTest .badLength)) ∧
    (∀ o v : Byte, b = [o, v] →
      let r := s.out o.toNat
      let f := (s.outCfg o.toNat).function
      ((39 < o.toNat ∨ (f ≠ .beacon ∧ f ≠ .spare) ∨ 1 < v.toNat) →
        exec (.outputSet p b) s = .next (s.refused p .outputSet .badReference)) ∧
      (o.toNat ≤ 39 → (f = .beacon ∨ f = .spare) → v.toNat ≤ 1 → ∃ t,
        exec (.outputSet p b) s = s.replies p .outputSet .ok [] t ∧
        t = { s.framed p with outputs := s.outputs.set o.toNat { r with commanded := v.toNat = 1 } } ∧
        (r.testEnd = none → s.pattern o.toNat = .none → t.pinOn o.toNat = decide (v.toNat = 1))) ∧
      (39 < o.toNat → exec (.outputTest p b) s = .next (s.refused p .outputTest .badReference)) ∧
      (o.toNat ≤ 39 → s.runMode = .running →
        exec (.outputTest p b) s = .next (s.refused p .outputTest .notStopped)) ∧
      (o.toNat ≤ 39 → s.runMode = .stopped → s.fire = true →
        exec (.outputTest p b) s = .next (s.refused p .outputTest .fireActive)) ∧
      (o.toNat ≤ 39 → s.runMode = .stopped → s.fire = false → ∃ t,
        exec (.outputTest p b) s =
          s.replies p .outputTest (if 1 ≤ v.toNat ∧ v.toNat ≤ 60 then .ok else .clamped) [] t ∧
        let r' : OutputRec := { r with testEnd := some (s.now + 100 * max 1 (min 60 v.toNat)),
                                       hold := if s.isLoad o.toNat = true then .none else r.hold }
        t = { s.framed p with outputs := s.outputs.set o.toNat r' } ∧ t.pinOn o.toNat = true))

/-! ### Laws of the device -/

/-- Every law below holds after reset. -/
def Obligations.ResetObeysTheLaws : Prop :=
  State.reset.Sized ∧ State.reset.PoolLaw ∧ State.reset.DebtLaw ∧ State.reset.QueueLaw ∧ State.reset.ClaimLaw ∧
  State.reset.LockLaw ∧ State.reset.ProgrammeLaw ∧ State.reset.BarrierLaw ∧ State.reset.LookAheadLaw ∧
  State.reset.ClockLaw ∧ State.reset.RangeLaw ∧ State.reset.FireLaw ∧
  State.reset.StoppedLaw ∧ State.reset.DriveLaw ∧ State.reset.GrantLaw ∧ State.reset.AirLaw ∧ State.reset.FloorLaw

/-- Every step keeps the number of the part's zones, doors, lines, channels, outputs, locks, slots and contexts (00, Key
figures). -/
def Obligations.StepsKeepTheSizes : Prop := ∀ s t : State, s.Sized → step s = .next t → t.Sized

/-- The pool law (R54): every step keeps the entries of all contexts at 192 or fewer, and no context holds two entries
for one zone. -/
def Obligations.StepsKeepThePoolLaw : Prop := ∀ s t : State, s.PoolLaw → step s = .next t → t.PoolLaw

/-- Door debt stays within 0–3600 (R107), each event queue within 24 records and each lost count within 255 (R176), the
clock at a second of a minute of the week (R49), and H, W and P in their ranges (R61, R129), under every step. -/
def Obligations.StepsKeepDebtAndQueuesInBounds : Prop :=
  (∀ s t : State, s.DebtLaw → s.QueueLaw → step s = .next t → t.DebtLaw ∧ t.QueueLaw) ∧
  (∀ s t : State, s.ClockLaw → step s = .next t → t.ClockLaw) ∧
  (∀ s t : State, s.RangeLaw → step s = .next t → t.RangeLaw)

/-- The laws of authority (R159, R169): every step keeps a pending claim the other party's while a party holds, and every
FULL override lock owned by an ALIVE port. -/
def Obligations.StepsKeepTheAuthorityLaws : Prop :=
  ∀ s t : State, s.Sized → s.ClaimLaw → s.LockLaw → step s = .next t → t.ClaimLaw ∧ t.LockLaw

/-- The laws of the contexts (R55, R61): every step keeps the active contexts as the run mode and the handover have them,
all of them, the queued ones and, while RUNNING, the fallback context non-EMPTY, the queue empty while STOPPED, within H
entries and without two for one slot. The barrier (R72, R74): while a handover is in progress every step keeps its target
at three participants for each enabled zone, its count at the arrivals marked in them, and the count below the target. -/
def Obligations.StepsKeepTheContextLaws : Prop :=
  (∀ s t : State, s.ProgrammeLaw → s.LookAheadLaw → step s = .next t → t.ProgrammeLaw ∧ t.LookAheadLaw) ∧
  (∀ s t : State, s.Sized → s.ProgrammeLaw → s.BarrierLaw → step s = .next t → t.BarrierLaw)

/-- The laws of the outputs (R95, R125, R149, R151, R152): every step keeps every HEATER and CURTAIN output off while
fire mode is set; every output's own Drive OFF, unrequested and ungranted, and every load output forced STOP, while
STOPPED; an output that no controller requests, such as a unit or stage above a gap (R104, R119), unrequested,
ungranted and OFF, and MIN_ON only on an output that is ON; every load output's Drive ON only
while its load is granted, so that its pin is on only then or under a test; while RUNNING and outside fire mode every
enabled zone's granted fan stage at least its air stage after door credit; and while RUNNING every OCCUPIED or GRACE
zone's present level at least its egress floor, a zone without an occupancy source by the settings (log 16) staying
OCCUPIED (R41). -/
def Obligations.StepsKeepTheOutputLaws : Prop :=
  (∀ s t : State, s.FireLaw → s.StoppedLaw → s.DriveLaw → step s = .next t →
    t.FireLaw ∧ t.StoppedLaw ∧ t.DriveLaw ∧ (s.GrantLaw → t.GrantLaw)) ∧
  (∀ s t : State, s.Sized → s.AirLaw → step s = .next t → t.AirLaw) ∧
  (∀ s t : State, s.Sized → s.FloorLaw → step s = .next t → t.FloorLaw) ∧
  (∀ (s : State) (o : Nat), o < 40 → s.GrantLaw → s.isLoad o = true → s.pinOn o = true →
    (s.out o).grant ≠ .none ∨ (s.out o).testEnd ≠ none) ∧
  (∀ (s : State) (z : Nat), z < 16 → s.AirLaw → s.runMode = .running → s.fire = false → s.enabled z = true →
    (s.zone z).vent.credited ≤ s.grantedFanStage z)
end

