-- ==== Sys2Proof/Laws/State.lean ====
section
/-! SUPPORT. What one update of the state leaves in each field: one lemma for each field of State and each of the operations
that change one record, so that no proof unfolds a record update. -/

namespace Sys2Proof.Machine

variable (s : State)

/-! ### updZone -/

@[simp] theorem State.updZone_now (z : Nat) (f : ZoneRec → ZoneRec) :
    (s.updZone z f).now = s.now := rfl
@[simp] theorem State.updZone_pins (z : Nat) (f : ZoneRec → ZoneRec) :
    (s.updZone z f).pins = s.pins := rfl
@[simp] theorem State.updZone_runMode (z : Nat) (f : ZoneRec → ZoneRec) :
    (s.updZone z f).runMode = s.runMode := rfl
@[simp] theorem State.updZone_settings (z : Nat) (f : ZoneRec → ZoneRec) :
    (s.updZone z f).settings = s.settings := rfl
@[simp] theorem State.updZone_store (z : Nat) (f : ZoneRec → ZoneRec) :
    (s.updZone z f).store = s.store := rfl
@[simp] theorem State.updZone_lines (z : Nat) (f : ZoneRec → ZoneRec) :
    (s.updZone z f).lines = s.lines := rfl
@[simp] theorem State.updZone_doors (z : Nat) (f : ZoneRec → ZoneRec) :
    (s.updZone z f).doors = s.doors := rfl
@[simp] theorem State.updZone_fire (z : Nat) (f : ZoneRec → ZoneRec) :
    (s.updZone z f).fire = s.fire := rfl
@[simp] theorem State.updZone_activity (z : Nat) (f : ZoneRec → ZoneRec) :
    (s.updZone z f).activity = s.activity := rfl
@[simp] theorem State.updZone_channels (z : Nat) (f : ZoneRec → ZoneRec) :
    (s.updZone z f).channels = s.channels := rfl
@[simp] theorem State.updZone_zones (z : Nat) (f : ZoneRec → ZoneRec) :
    (s.updZone z f).zones = s.zones.modify z f := rfl
@[simp] theorem State.updZone_clock (z : Nat) (f : ZoneRec → ZoneRec) :
    (s.updZone z f).clock = s.clock := rfl
@[simp] theorem State.updZone_programme (z : Nat) (f : ZoneRec → ZoneRec) :
    (s.updZone z f).programme = s.programme := rfl
@[simp] theorem State.updZone_queue (z : Nat) (f : ZoneRec → ZoneRec) :
    (s.updZone z f).queue = s.queue := rfl
@[simp] theorem State.updZone_readAt (z : Nat) (f : ZoneRec → ZoneRec) :
    (s.updZone z f).readAt = s.readAt := rfl
@[simp] theorem State.updZone_alloc (z : Nat) (f : ZoneRec → ZoneRec) :
    (s.updZone z f).alloc = s.alloc := rfl
@[simp] theorem State.updZone_outputs (z : Nat) (f : ZoneRec → ZoneRec) :
    (s.updZone z f).outputs = s.outputs := rfl
@[simp] theorem State.updZone_slowOn (z : Nat) (f : ZoneRec → ZoneRec) :
    (s.updZone z f).slowOn = s.slowOn := rfl
@[simp] theorem State.updZone_fastOn (z : Nat) (f : ZoneRec → ZoneRec) :
    (s.updZone z f).fastOn = s.fastOn := rfl
@[simp] theorem State.updZone_authority (z : Nat) (f : ZoneRec → ZoneRec) :
    (s.updZone z f).authority = s.authority := rfl
@[simp] theorem State.updZone_locks (z : Nat) (f : ZoneRec → ZoneRec) :
    (s.updZone z f).locks = s.locks := rfl
@[simp] theorem State.updZone_link (z : Nat) (f : ZoneRec → ZoneRec) :
    (s.updZone z f).link = s.link := rfl
@[simp] theorem State.updZone_snaps (z : Nat) (f : ZoneRec → ZoneRec) :
    (s.updZone z f).snaps = s.snaps := rfl
@[simp] theorem State.updZone_pending (z : Nat) (f : ZoneRec → ZoneRec) :
    (s.updZone z f).pending = s.pending := rfl

/-! ### updDoor -/

@[simp] theorem State.updDoor_now (d : Nat) (f : DoorRec → DoorRec) :
    (s.updDoor d f).now = s.now := rfl
@[simp] theorem State.updDoor_pins (d : Nat) (f : DoorRec → DoorRec) :
    (s.updDoor d f).pins = s.pins := rfl
@[simp] theorem State.updDoor_runMode (d : Nat) (f : DoorRec → DoorRec) :
    (s.updDoor d f).runMode = s.runMode := rfl
@[simp] theorem State.updDoor_settings (d : Nat) (f : DoorRec → DoorRec) :
    (s.updDoor d f).settings = s.settings := rfl
@[simp] theorem State.updDoor_store (d : Nat) (f : DoorRec → DoorRec) :
    (s.updDoor d f).store = s.store := rfl
@[simp] theorem State.updDoor_lines (d : Nat) (f : DoorRec → DoorRec) :
    (s.updDoor d f).lines = s.lines := rfl
@[simp] theorem State.updDoor_doors (d : Nat) (f : DoorRec → DoorRec) :
    (s.updDoor d f).doors = s.doors.modify d f := rfl
@[simp] theorem State.updDoor_fire (d : Nat) (f : DoorRec → DoorRec) :
    (s.updDoor d f).fire = s.fire := rfl
@[simp] theorem State.updDoor_activity (d : Nat) (f : DoorRec → DoorRec) :
    (s.updDoor d f).activity = s.activity := rfl
@[simp] theorem State.updDoor_channels (d : Nat) (f : DoorRec → DoorRec) :
    (s.updDoor d f).channels = s.channels := rfl
@[simp] theorem State.updDoor_zones (d : Nat) (f : DoorRec → DoorRec) :
    (s.updDoor d f).zones = s.zones := rfl
@[simp] theorem State.updDoor_clock (d : Nat) (f : DoorRec → DoorRec) :
    (s.updDoor d f).clock = s.clock := rfl
@[simp] theorem State.updDoor_programme (d : Nat) (f : DoorRec → DoorRec) :
    (s.updDoor d f).programme = s.programme := rfl
@[simp] theorem State.updDoor_queue (d : Nat) (f : DoorRec → DoorRec) :
    (s.updDoor d f).queue = s.queue := rfl
@[simp] theorem State.updDoor_readAt (d : Nat) (f : DoorRec → DoorRec) :
    (s.updDoor d f).readAt = s.readAt := rfl
@[simp] theorem State.updDoor_alloc (d : Nat) (f : DoorRec → DoorRec) :
    (s.updDoor d f).alloc = s.alloc := rfl
@[simp] theorem State.updDoor_outputs (d : Nat) (f : DoorRec → DoorRec) :
    (s.updDoor d f).outputs = s.outputs := rfl
@[simp] theorem State.updDoor_slowOn (d : Nat) (f : DoorRec → DoorRec) :
    (s.updDoor d f).slowOn = s.slowOn := rfl
@[simp] theorem State.updDoor_fastOn (d : Nat) (f : DoorRec → DoorRec) :
    (s.updDoor d f).fastOn = s.fastOn := rfl
@[simp] theorem State.updDoor_authority (d : Nat) (f : DoorRec → DoorRec) :
    (s.updDoor d f).authority = s.authority := rfl
@[simp] theorem State.updDoor_locks (d : Nat) (f : DoorRec → DoorRec) :
    (s.updDoor d f).locks = s.locks := rfl
@[simp] theorem State.updDoor_link (d : Nat) (f : DoorRec → DoorRec) :
    (s.updDoor d f).link = s.link := rfl
@[simp] theorem State.updDoor_snaps (d : Nat) (f : DoorRec → DoorRec) :
    (s.updDoor d f).snaps = s.snaps := rfl
@[simp] theorem State.updDoor_pending (d : Nat) (f : DoorRec → DoorRec) :
    (s.updDoor d f).pending = s.pending := rfl

/-! ### updLine -/

@[simp] theorem State.updLine_now (l : Nat) (f : LineRec → LineRec) :
    (s.updLine l f).now = s.now := rfl
@[simp] theorem State.updLine_pins (l : Nat) (f : LineRec → LineRec) :
    (s.updLine l f).pins = s.pins := rfl
@[simp] theorem State.updLine_runMode (l : Nat) (f : LineRec → LineRec) :
    (s.updLine l f).runMode = s.runMode := rfl
@[simp] theorem State.updLine_settings (l : Nat) (f : LineRec → LineRec) :
    (s.updLine l f).settings = s.settings := rfl
@[simp] theorem State.updLine_store (l : Nat) (f : LineRec → LineRec) :
    (s.updLine l f).store = s.store := rfl
@[simp] theorem State.updLine_lines (l : Nat) (f : LineRec → LineRec) :
    (s.updLine l f).lines = s.lines.modify l f := rfl
@[simp] theorem State.updLine_doors (l : Nat) (f : LineRec → LineRec) :
    (s.updLine l f).doors = s.doors := rfl
@[simp] theorem State.updLine_fire (l : Nat) (f : LineRec → LineRec) :
    (s.updLine l f).fire = s.fire := rfl
@[simp] theorem State.updLine_activity (l : Nat) (f : LineRec → LineRec) :
    (s.updLine l f).activity = s.activity := rfl
@[simp] theorem State.updLine_channels (l : Nat) (f : LineRec → LineRec) :
    (s.updLine l f).channels = s.channels := rfl
@[simp] theorem State.updLine_zones (l : Nat) (f : LineRec → LineRec) :
    (s.updLine l f).zones = s.zones := rfl
@[simp] theorem State.updLine_clock (l : Nat) (f : LineRec → LineRec) :
    (s.updLine l f).clock = s.clock := rfl
@[simp] theorem State.updLine_programme (l : Nat) (f : LineRec → LineRec) :
    (s.updLine l f).programme = s.programme := rfl
@[simp] theorem State.updLine_queue (l : Nat) (f : LineRec → LineRec) :
    (s.updLine l f).queue = s.queue := rfl
@[simp] theorem State.updLine_readAt (l : Nat) (f : LineRec → LineRec) :
    (s.updLine l f).readAt = s.readAt := rfl
@[simp] theorem State.updLine_alloc (l : Nat) (f : LineRec → LineRec) :
    (s.updLine l f).alloc = s.alloc := rfl
@[simp] theorem State.updLine_outputs (l : Nat) (f : LineRec → LineRec) :
    (s.updLine l f).outputs = s.outputs := rfl
@[simp] theorem State.updLine_slowOn (l : Nat) (f : LineRec → LineRec) :
    (s.updLine l f).slowOn = s.slowOn := rfl
@[simp] theorem State.updLine_fastOn (l : Nat) (f : LineRec → LineRec) :
    (s.updLine l f).fastOn = s.fastOn := rfl
@[simp] theorem State.updLine_authority (l : Nat) (f : LineRec → LineRec) :
    (s.updLine l f).authority = s.authority := rfl
@[simp] theorem State.updLine_locks (l : Nat) (f : LineRec → LineRec) :
    (s.updLine l f).locks = s.locks := rfl
@[simp] theorem State.updLine_link (l : Nat) (f : LineRec → LineRec) :
    (s.updLine l f).link = s.link := rfl
@[simp] theorem State.updLine_snaps (l : Nat) (f : LineRec → LineRec) :
    (s.updLine l f).snaps = s.snaps := rfl
@[simp] theorem State.updLine_pending (l : Nat) (f : LineRec → LineRec) :
    (s.updLine l f).pending = s.pending := rfl

/-! ### updChan -/

@[simp] theorem State.updChan_now (c : Nat) (f : ChannelRec → ChannelRec) :
    (s.updChan c f).now = s.now := rfl
@[simp] theorem State.updChan_pins (c : Nat) (f : ChannelRec → ChannelRec) :
    (s.updChan c f).pins = s.pins := rfl
@[simp] theorem State.updChan_runMode (c : Nat) (f : ChannelRec → ChannelRec) :
    (s.updChan c f).runMode = s.runMode := rfl
@[simp] theorem State.updChan_settings (c : Nat) (f : ChannelRec → ChannelRec) :
    (s.updChan c f).settings = s.settings := rfl
@[simp] theorem State.updChan_store (c : Nat) (f : ChannelRec → ChannelRec) :
    (s.updChan c f).store = s.store := rfl
@[simp] theorem State.updChan_lines (c : Nat) (f : ChannelRec → ChannelRec) :
    (s.updChan c f).lines = s.lines := rfl
@[simp] theorem State.updChan_doors (c : Nat) (f : ChannelRec → ChannelRec) :
    (s.updChan c f).doors = s.doors := rfl
@[simp] theorem State.updChan_fire (c : Nat) (f : ChannelRec → ChannelRec) :
    (s.updChan c f).fire = s.fire := rfl
@[simp] theorem State.updChan_activity (c : Nat) (f : ChannelRec → ChannelRec) :
    (s.updChan c f).activity = s.activity := rfl
@[simp] theorem State.updChan_channels (c : Nat) (f : ChannelRec → ChannelRec) :
    (s.updChan c f).channels = s.channels.modify c f := rfl
@[simp] theorem State.updChan_zones (c : Nat) (f : ChannelRec → ChannelRec) :
    (s.updChan c f).zones = s.zones := rfl
@[simp] theorem State.updChan_clock (c : Nat) (f : ChannelRec → ChannelRec) :
    (s.updChan c f).clock = s.clock := rfl
@[simp] theorem State.updChan_programme (c : Nat) (f : ChannelRec → ChannelRec) :
    (s.updChan c f).programme = s.programme := rfl
@[simp] theorem State.updChan_queue (c : Nat) (f : ChannelRec → ChannelRec) :
    (s.updChan c f).queue = s.queue := rfl
@[simp] theorem State.updChan_readAt (c : Nat) (f : ChannelRec → ChannelRec) :
    (s.updChan c f).readAt = s.readAt := rfl
@[simp] theorem State.updChan_alloc (c : Nat) (f : ChannelRec → ChannelRec) :
    (s.updChan c f).alloc = s.alloc := rfl
@[simp] theorem State.updChan_outputs (c : Nat) (f : ChannelRec → ChannelRec) :
    (s.updChan c f).outputs = s.outputs := rfl
@[simp] theorem State.updChan_slowOn (c : Nat) (f : ChannelRec → ChannelRec) :
    (s.updChan c f).slowOn = s.slowOn := rfl
@[simp] theorem State.updChan_fastOn (c : Nat) (f : ChannelRec → ChannelRec) :
    (s.updChan c f).fastOn = s.fastOn := rfl
@[simp] theorem State.updChan_authority (c : Nat) (f : ChannelRec → ChannelRec) :
    (s.updChan c f).authority = s.authority := rfl
@[simp] theorem State.updChan_locks (c : Nat) (f : ChannelRec → ChannelRec) :
    (s.updChan c f).locks = s.locks := rfl
@[simp] theorem State.updChan_link (c : Nat) (f : ChannelRec → ChannelRec) :
    (s.updChan c f).link = s.link := rfl
@[simp] theorem State.updChan_snaps (c : Nat) (f : ChannelRec → ChannelRec) :
    (s.updChan c f).snaps = s.snaps := rfl
@[simp] theorem State.updChan_pending (c : Nat) (f : ChannelRec → ChannelRec) :
    (s.updChan c f).pending = s.pending := rfl

/-! ### updOut -/

@[simp] theorem State.updOut_now (o : Nat) (f : OutputRec → OutputRec) :
    (s.updOut o f).now = s.now := rfl
@[simp] theorem State.updOut_pins (o : Nat) (f : OutputRec → OutputRec) :
    (s.updOut o f).pins = s.pins := rfl
@[simp] theorem State.updOut_runMode (o : Nat) (f : OutputRec → OutputRec) :
    (s.updOut o f).runMode = s.runMode := rfl
@[simp] theorem State.updOut_settings (o : Nat) (f : OutputRec → OutputRec) :
    (s.updOut o f).settings = s.settings := rfl
@[simp] theorem State.updOut_store (o : Nat) (f : OutputRec → OutputRec) :
    (s.updOut o f).store = s.store := rfl
@[simp] theorem State.updOut_lines (o : Nat) (f : OutputRec → OutputRec) :
    (s.updOut o f).lines = s.lines := rfl
@[simp] theorem State.updOut_doors (o : Nat) (f : OutputRec → OutputRec) :
    (s.updOut o f).doors = s.doors := rfl
@[simp] theorem State.updOut_fire (o : Nat) (f : OutputRec → OutputRec) :
    (s.updOut o f).fire = s.fire := rfl
@[simp] theorem State.updOut_activity (o : Nat) (f : OutputRec → OutputRec) :
    (s.updOut o f).activity = s.activity := rfl
@[simp] theorem State.updOut_channels (o : Nat) (f : OutputRec → OutputRec) :
    (s.updOut o f).channels = s.channels := rfl
@[simp] theorem State.updOut_zones (o : Nat) (f : OutputRec → OutputRec) :
    (s.updOut o f).zones = s.zones := rfl
@[simp] theorem State.updOut_clock (o : Nat) (f : OutputRec → OutputRec) :
    (s.updOut o f).clock = s.clock := rfl
@[simp] theorem State.updOut_programme (o : Nat) (f : OutputRec → OutputRec) :
    (s.updOut o f).programme = s.programme := rfl
@[simp] theorem State.updOut_queue (o : Nat) (f : OutputRec → OutputRec) :
    (s.updOut o f).queue = s.queue := rfl
@[simp] theorem State.updOut_readAt (o : Nat) (f : OutputRec → OutputRec) :
    (s.updOut o f).readAt = s.readAt := rfl
@[simp] theorem State.updOut_alloc (o : Nat) (f : OutputRec → OutputRec) :
    (s.updOut o f).alloc = s.alloc := rfl
@[simp] theorem State.updOut_outputs (o : Nat) (f : OutputRec → OutputRec) :
    (s.updOut o f).outputs = s.outputs.modify o f := rfl
@[simp] theorem State.updOut_slowOn (o : Nat) (f : OutputRec → OutputRec) :
    (s.updOut o f).slowOn = s.slowOn := rfl
@[simp] theorem State.updOut_fastOn (o : Nat) (f : OutputRec → OutputRec) :
    (s.updOut o f).fastOn = s.fastOn := rfl
@[simp] theorem State.updOut_authority (o : Nat) (f : OutputRec → OutputRec) :
    (s.updOut o f).authority = s.authority := rfl
@[simp] theorem State.updOut_locks (o : Nat) (f : OutputRec → OutputRec) :
    (s.updOut o f).locks = s.locks := rfl
@[simp] theorem State.updOut_link (o : Nat) (f : OutputRec → OutputRec) :
    (s.updOut o f).link = s.link := rfl
@[simp] theorem State.updOut_snaps (o : Nat) (f : OutputRec → OutputRec) :
    (s.updOut o f).snaps = s.snaps := rfl
@[simp] theorem State.updOut_pending (o : Nat) (f : OutputRec → OutputRec) :
    (s.updOut o f).pending = s.pending := rfl

/-! ### setMark -/

@[simp] theorem State.setMark_now (z : Nat) (b : Bool) :
    (s.setMark z b).now = s.now := rfl
@[simp] theorem State.setMark_pins (z : Nat) (b : Bool) :
    (s.setMark z b).pins = s.pins := rfl
@[simp] theorem State.setMark_runMode (z : Nat) (b : Bool) :
    (s.setMark z b).runMode = s.runMode := rfl
@[simp] theorem State.setMark_settings (z : Nat) (b : Bool) :
    (s.setMark z b).settings = s.settings := rfl
@[simp] theorem State.setMark_store (z : Nat) (b : Bool) :
    (s.setMark z b).store = s.store := rfl
@[simp] theorem State.setMark_lines (z : Nat) (b : Bool) :
    (s.setMark z b).lines = s.lines := rfl
@[simp] theorem State.setMark_doors (z : Nat) (b : Bool) :
    (s.setMark z b).doors = s.doors := rfl
@[simp] theorem State.setMark_fire (z : Nat) (b : Bool) :
    (s.setMark z b).fire = s.fire := rfl
@[simp] theorem State.setMark_activity (z : Nat) (b : Bool) :
    (s.setMark z b).activity = s.activity.set z b := rfl
@[simp] theorem State.setMark_channels (z : Nat) (b : Bool) :
    (s.setMark z b).channels = s.channels := rfl
@[simp] theorem State.setMark_zones (z : Nat) (b : Bool) :
    (s.setMark z b).zones = s.zones := rfl
@[simp] theorem State.setMark_clock (z : Nat) (b : Bool) :
    (s.setMark z b).clock = s.clock := rfl
@[simp] theorem State.setMark_programme (z : Nat) (b : Bool) :
    (s.setMark z b).programme = s.programme := rfl
@[simp] theorem State.setMark_queue (z : Nat) (b : Bool) :
    (s.setMark z b).queue = s.queue := rfl
@[simp] theorem State.setMark_readAt (z : Nat) (b : Bool) :
    (s.setMark z b).readAt = s.readAt := rfl
@[simp] theorem State.setMark_alloc (z : Nat) (b : Bool) :
    (s.setMark z b).alloc = s.alloc := rfl
@[simp] theorem State.setMark_outputs (z : Nat) (b : Bool) :
    (s.setMark z b).outputs = s.outputs := rfl
@[simp] theorem State.setMark_slowOn (z : Nat) (b : Bool) :
    (s.setMark z b).slowOn = s.slowOn := rfl
@[simp] theorem State.setMark_fastOn (z : Nat) (b : Bool) :
    (s.setMark z b).fastOn = s.fastOn := rfl
@[simp] theorem State.setMark_authority (z : Nat) (b : Bool) :
    (s.setMark z b).authority = s.authority := rfl
@[simp] theorem State.setMark_locks (z : Nat) (b : Bool) :
    (s.setMark z b).locks = s.locks := rfl
@[simp] theorem State.setMark_link (z : Nat) (b : Bool) :
    (s.setMark z b).link = s.link := rfl
@[simp] theorem State.setMark_snaps (z : Nat) (b : Bool) :
    (s.setMark z b).snaps = s.snaps := rfl
@[simp] theorem State.setMark_pending (z : Nat) (b : Bool) :
    (s.setMark z b).pending = s.pending := rfl

/-! ### setLock -/

@[simp] theorem State.setLock_now (i : Nat) (v : Option Lock) :
    (s.setLock i v).now = s.now := rfl
@[simp] theorem State.setLock_pins (i : Nat) (v : Option Lock) :
    (s.setLock i v).pins = s.pins := rfl
@[simp] theorem State.setLock_runMode (i : Nat) (v : Option Lock) :
    (s.setLock i v).runMode = s.runMode := rfl
@[simp] theorem State.setLock_settings (i : Nat) (v : Option Lock) :
    (s.setLock i v).settings = s.settings := rfl
@[simp] theorem State.setLock_store (i : Nat) (v : Option Lock) :
    (s.setLock i v).store = s.store := rfl
@[simp] theorem State.setLock_lines (i : Nat) (v : Option Lock) :
    (s.setLock i v).lines = s.lines := rfl
@[simp] theorem State.setLock_doors (i : Nat) (v : Option Lock) :
    (s.setLock i v).doors = s.doors := rfl
@[simp] theorem State.setLock_fire (i : Nat) (v : Option Lock) :
    (s.setLock i v).fire = s.fire := rfl
@[simp] theorem State.setLock_activity (i : Nat) (v : Option Lock) :
    (s.setLock i v).activity = s.activity := rfl
@[simp] theorem State.setLock_channels (i : Nat) (v : Option Lock) :
    (s.setLock i v).channels = s.channels := rfl
@[simp] theorem State.setLock_zones (i : Nat) (v : Option Lock) :
    (s.setLock i v).zones = s.zones := rfl
@[simp] theorem State.setLock_clock (i : Nat) (v : Option Lock) :
    (s.setLock i v).clock = s.clock := rfl
@[simp] theorem State.setLock_programme (i : Nat) (v : Option Lock) :
    (s.setLock i v).programme = s.programme := rfl
@[simp] theorem State.setLock_queue (i : Nat) (v : Option Lock) :
    (s.setLock i v).queue = s.queue := rfl
@[simp] theorem State.setLock_readAt (i : Nat) (v : Option Lock) :
    (s.setLock i v).readAt = s.readAt := rfl
@[simp] theorem State.setLock_alloc (i : Nat) (v : Option Lock) :
    (s.setLock i v).alloc = s.alloc := rfl
@[simp] theorem State.setLock_outputs (i : Nat) (v : Option Lock) :
    (s.setLock i v).outputs = s.outputs := rfl
@[simp] theorem State.setLock_slowOn (i : Nat) (v : Option Lock) :
    (s.setLock i v).slowOn = s.slowOn := rfl
@[simp] theorem State.setLock_fastOn (i : Nat) (v : Option Lock) :
    (s.setLock i v).fastOn = s.fastOn := rfl
@[simp] theorem State.setLock_authority (i : Nat) (v : Option Lock) :
    (s.setLock i v).authority = s.authority := rfl
@[simp] theorem State.setLock_locks (i : Nat) (v : Option Lock) :
    (s.setLock i v).locks = s.locks.set i v := rfl
@[simp] theorem State.setLock_link (i : Nat) (v : Option Lock) :
    (s.setLock i v).link = s.link := rfl
@[simp] theorem State.setLock_snaps (i : Nat) (v : Option Lock) :
    (s.setLock i v).snaps = s.snaps := rfl
@[simp] theorem State.setLock_pending (i : Nat) (v : Option Lock) :
    (s.setLock i v).pending = s.pending := rfl

/-! ### updAlloc -/

@[simp] theorem State.updAlloc_now (f : Alloc → Alloc) :
    (s.updAlloc f).now = s.now := rfl
@[simp] theorem State.updAlloc_pins (f : Alloc → Alloc) :
    (s.updAlloc f).pins = s.pins := rfl
@[simp] theorem State.updAlloc_runMode (f : Alloc → Alloc) :
    (s.updAlloc f).runMode = s.runMode := rfl
@[simp] theorem State.updAlloc_settings (f : Alloc → Alloc) :
    (s.updAlloc f).settings = s.settings := rfl
@[simp] theorem State.updAlloc_store (f : Alloc → Alloc) :
    (s.updAlloc f).store = s.store := rfl
@[simp] theorem State.updAlloc_lines (f : Alloc → Alloc) :
    (s.updAlloc f).lines = s.lines := rfl
@[simp] theorem State.updAlloc_doors (f : Alloc → Alloc) :
    (s.updAlloc f).doors = s.doors := rfl
@[simp] theorem State.updAlloc_fire (f : Alloc → Alloc) :
    (s.updAlloc f).fire = s.fire := rfl
@[simp] theorem State.updAlloc_activity (f : Alloc → Alloc) :
    (s.updAlloc f).activity = s.activity := rfl
@[simp] theorem State.updAlloc_channels (f : Alloc → Alloc) :
    (s.updAlloc f).channels = s.channels := rfl
@[simp] theorem State.updAlloc_zones (f : Alloc → Alloc) :
    (s.updAlloc f).zones = s.zones := rfl
@[simp] theorem State.updAlloc_clock (f : Alloc → Alloc) :
    (s.updAlloc f).clock = s.clock := rfl
@[simp] theorem State.updAlloc_programme (f : Alloc → Alloc) :
    (s.updAlloc f).programme = s.programme := rfl
@[simp] theorem State.updAlloc_queue (f : Alloc → Alloc) :
    (s.updAlloc f).queue = s.queue := rfl
@[simp] theorem State.updAlloc_readAt (f : Alloc → Alloc) :
    (s.updAlloc f).readAt = s.readAt := rfl
@[simp] theorem State.updAlloc_alloc (f : Alloc → Alloc) :
    (s.updAlloc f).alloc = f s.alloc := rfl
@[simp] theorem State.updAlloc_outputs (f : Alloc → Alloc) :
    (s.updAlloc f).outputs = s.outputs := rfl
@[simp] theorem State.updAlloc_slowOn (f : Alloc → Alloc) :
    (s.updAlloc f).slowOn = s.slowOn := rfl
@[simp] theorem State.updAlloc_fastOn (f : Alloc → Alloc) :
    (s.updAlloc f).fastOn = s.fastOn := rfl
@[simp] theorem State.updAlloc_authority (f : Alloc → Alloc) :
    (s.updAlloc f).authority = s.authority := rfl
@[simp] theorem State.updAlloc_locks (f : Alloc → Alloc) :
    (s.updAlloc f).locks = s.locks := rfl
@[simp] theorem State.updAlloc_link (f : Alloc → Alloc) :
    (s.updAlloc f).link = s.link := rfl
@[simp] theorem State.updAlloc_snaps (f : Alloc → Alloc) :
    (s.updAlloc f).snaps = s.snaps := rfl
@[simp] theorem State.updAlloc_pending (f : Alloc → Alloc) :
    (s.updAlloc f).pending = s.pending := rfl

/-! ### updSettings -/

@[simp] theorem State.updSettings_now (f : Settings → Settings) :
    (s.updSettings f).now = s.now := rfl
@[simp] theorem State.updSettings_pins (f : Settings → Settings) :
    (s.updSettings f).pins = s.pins := rfl
@[simp] theorem State.updSettings_runMode (f : Settings → Settings) :
    (s.updSettings f).runMode = s.runMode := rfl
@[simp] theorem State.updSettings_settings (f : Settings → Settings) :
    (s.updSettings f).settings = f s.settings := rfl
@[simp] theorem State.updSettings_store (f : Settings → Settings) :
    (s.updSettings f).store = s.store := rfl
@[simp] theorem State.updSettings_lines (f : Settings → Settings) :
    (s.updSettings f).lines = s.lines := rfl
@[simp] theorem State.updSettings_doors (f : Settings → Settings) :
    (s.updSettings f).doors = s.doors := rfl
@[simp] theorem State.updSettings_fire (f : Settings → Settings) :
    (s.updSettings f).fire = s.fire := rfl
@[simp] theorem State.updSettings_activity (f : Settings → Settings) :
    (s.updSettings f).activity = s.activity := rfl
@[simp] theorem State.updSettings_channels (f : Settings → Settings) :
    (s.updSettings f).channels = s.channels := rfl
@[simp] theorem State.updSettings_zones (f : Settings → Settings) :
    (s.updSettings f).zones = s.zones := rfl
@[simp] theorem State.updSettings_clock (f : Settings → Settings) :
    (s.updSettings f).clock = s.clock := rfl
@[simp] theorem State.updSettings_programme (f : Settings → Settings) :
    (s.updSettings f).programme = s.programme := rfl
@[simp] theorem State.updSettings_queue (f : Settings → Settings) :
    (s.updSettings f).queue = s.queue := rfl
@[simp] theorem State.updSettings_readAt (f : Settings → Settings) :
    (s.updSettings f).readAt = s.readAt := rfl
@[simp] theorem State.updSettings_alloc (f : Settings → Settings) :
    (s.updSettings f).alloc = s.alloc := rfl
@[simp] theorem State.updSettings_outputs (f : Settings → Settings) :
    (s.updSettings f).outputs = s.outputs := rfl
@[simp] theorem State.updSettings_slowOn (f : Settings → Settings) :
    (s.updSettings f).slowOn = s.slowOn := rfl
@[simp] theorem State.updSettings_fastOn (f : Settings → Settings) :
    (s.updSettings f).fastOn = s.fastOn := rfl
@[simp] theorem State.updSettings_authority (f : Settings → Settings) :
    (s.updSettings f).authority = s.authority := rfl
@[simp] theorem State.updSettings_locks (f : Settings → Settings) :
    (s.updSettings f).locks = s.locks := rfl
@[simp] theorem State.updSettings_link (f : Settings → Settings) :
    (s.updSettings f).link = s.link := rfl
@[simp] theorem State.updSettings_snaps (f : Settings → Settings) :
    (s.updSettings f).snaps = s.snaps := rfl
@[simp] theorem State.updSettings_pending (f : Settings → Settings) :
    (s.updSettings f).pending = s.pending := rfl

/-! ### setContext -/

@[simp] theorem State.setContext_now (c : Nat) (v : Option Context) :
    (s.setContext c v).now = s.now := rfl
@[simp] theorem State.setContext_pins (c : Nat) (v : Option Context) :
    (s.setContext c v).pins = s.pins := rfl
@[simp] theorem State.setContext_runMode (c : Nat) (v : Option Context) :
    (s.setContext c v).runMode = s.runMode := rfl
@[simp] theorem State.setContext_settings (c : Nat) (v : Option Context) :
    (s.setContext c v).settings = { s.settings with contexts := s.settings.contexts.set c v } := rfl
@[simp] theorem State.setContext_store (c : Nat) (v : Option Context) :
    (s.setContext c v).store = s.store := rfl
@[simp] theorem State.setContext_lines (c : Nat) (v : Option Context) :
    (s.setContext c v).lines = s.lines := rfl
@[simp] theorem State.setContext_doors (c : Nat) (v : Option Context) :
    (s.setContext c v).doors = s.doors := rfl
@[simp] theorem State.setContext_fire (c : Nat) (v : Option Context) :
    (s.setContext c v).fire = s.fire := rfl
@[simp] theorem State.setContext_activity (c : Nat) (v : Option Context) :
    (s.setContext c v).activity = s.activity := rfl
@[simp] theorem State.setContext_channels (c : Nat) (v : Option Context) :
    (s.setContext c v).channels = s.channels := rfl
@[simp] theorem State.setContext_zones (c : Nat) (v : Option Context) :
    (s.setContext c v).zones = s.zones := rfl
@[simp] theorem State.setContext_clock (c : Nat) (v : Option Context) :
    (s.setContext c v).clock = s.clock := rfl
@[simp] theorem State.setContext_programme (c : Nat) (v : Option Context) :
    (s.setContext c v).programme = s.programme := rfl
@[simp] theorem State.setContext_queue (c : Nat) (v : Option Context) :
    (s.setContext c v).queue = s.queue := rfl
@[simp] theorem State.setContext_readAt (c : Nat) (v : Option Context) :
    (s.setContext c v).readAt = s.readAt := rfl
@[simp] theorem State.setContext_alloc (c : Nat) (v : Option Context) :
    (s.setContext c v).alloc = s.alloc := rfl
@[simp] theorem State.setContext_outputs (c : Nat) (v : Option Context) :
    (s.setContext c v).outputs = s.outputs := rfl
@[simp] theorem State.setContext_slowOn (c : Nat) (v : Option Context) :
    (s.setContext c v).slowOn = s.slowOn := rfl
@[simp] theorem State.setContext_fastOn (c : Nat) (v : Option Context) :
    (s.setContext c v).fastOn = s.fastOn := rfl
@[simp] theorem State.setContext_authority (c : Nat) (v : Option Context) :
    (s.setContext c v).authority = s.authority := rfl
@[simp] theorem State.setContext_locks (c : Nat) (v : Option Context) :
    (s.setContext c v).locks = s.locks := rfl
@[simp] theorem State.setContext_link (c : Nat) (v : Option Context) :
    (s.setContext c v).link = s.link := rfl
@[simp] theorem State.setContext_snaps (c : Nat) (v : Option Context) :
    (s.setContext c v).snaps = s.snaps := rfl
@[simp] theorem State.setContext_pending (c : Nat) (v : Option Context) :
    (s.setContext c v).pending = s.pending := rfl

/-! ### clearMarks -/

@[simp] theorem State.clearMarks_now :
    (s.clearMarks).now = s.now := rfl
@[simp] theorem State.clearMarks_pins :
    (s.clearMarks).pins = s.pins := rfl
@[simp] theorem State.clearMarks_runMode :
    (s.clearMarks).runMode = s.runMode := rfl
@[simp] theorem State.clearMarks_settings :
    (s.clearMarks).settings = s.settings := rfl
@[simp] theorem State.clearMarks_store :
    (s.clearMarks).store = s.store := rfl
@[simp] theorem State.clearMarks_lines :
    (s.clearMarks).lines = s.lines := rfl
@[simp] theorem State.clearMarks_doors :
    (s.clearMarks).doors = s.doors := rfl
@[simp] theorem State.clearMarks_fire :
    (s.clearMarks).fire = s.fire := rfl
@[simp] theorem State.clearMarks_activity :
    (s.clearMarks).activity = s.activity := rfl
@[simp] theorem State.clearMarks_channels :
    (s.clearMarks).channels = s.channels := rfl
@[simp] theorem State.clearMarks_zones :
    (s.clearMarks).zones = s.zones.map fun r => { r with marks := noMarks } := rfl
@[simp] theorem State.clearMarks_clock :
    (s.clearMarks).clock = s.clock := rfl
@[simp] theorem State.clearMarks_programme :
    (s.clearMarks).programme = s.programme := rfl
@[simp] theorem State.clearMarks_queue :
    (s.clearMarks).queue = s.queue := rfl
@[simp] theorem State.clearMarks_readAt :
    (s.clearMarks).readAt = s.readAt := rfl
@[simp] theorem State.clearMarks_alloc :
    (s.clearMarks).alloc = s.alloc := rfl
@[simp] theorem State.clearMarks_outputs :
    (s.clearMarks).outputs = s.outputs := rfl
@[simp] theorem State.clearMarks_slowOn :
    (s.clearMarks).slowOn = s.slowOn := rfl
@[simp] theorem State.clearMarks_fastOn :
    (s.clearMarks).fastOn = s.fastOn := rfl
@[simp] theorem State.clearMarks_authority :
    (s.clearMarks).authority = s.authority := rfl
@[simp] theorem State.clearMarks_locks :
    (s.clearMarks).locks = s.locks := rfl
@[simp] theorem State.clearMarks_link :
    (s.clearMarks).link = s.link := rfl
@[simp] theorem State.clearMarks_snaps :
    (s.clearMarks).snaps = s.snaps := rfl
@[simp] theorem State.clearMarks_pending :
    (s.clearMarks).pending = s.pending := rfl

/-! ### installCurrent -/

@[simp] theorem State.installCurrent_now (c : Nat) :
    (s.installCurrent c).now = s.now := rfl
@[simp] theorem State.installCurrent_pins (c : Nat) :
    (s.installCurrent c).pins = s.pins := rfl
@[simp] theorem State.installCurrent_runMode (c : Nat) :
    (s.installCurrent c).runMode = s.runMode := rfl
@[simp] theorem State.installCurrent_settings (c : Nat) :
    (s.installCurrent c).settings = s.settings := rfl
@[simp] theorem State.installCurrent_store (c : Nat) :
    (s.installCurrent c).store = s.store := rfl
@[simp] theorem State.installCurrent_lines (c : Nat) :
    (s.installCurrent c).lines = s.lines := rfl
@[simp] theorem State.installCurrent_doors (c : Nat) :
    (s.installCurrent c).doors = s.doors := rfl
@[simp] theorem State.installCurrent_fire (c : Nat) :
    (s.installCurrent c).fire = s.fire := rfl
@[simp] theorem State.installCurrent_activity (c : Nat) :
    (s.installCurrent c).activity = s.activity := rfl
@[simp] theorem State.installCurrent_channels (c : Nat) :
    (s.installCurrent c).channels = s.channels := rfl
@[simp] theorem State.installCurrent_zones (c : Nat) :
    (s.installCurrent c).zones = s.zones := rfl
@[simp] theorem State.installCurrent_clock (c : Nat) :
    (s.installCurrent c).clock = s.clock := rfl
@[simp] theorem State.installCurrent_programme (c : Nat) :
    (s.installCurrent c).programme = .current c := rfl
@[simp] theorem State.installCurrent_queue (c : Nat) :
    (s.installCurrent c).queue = s.queue := rfl
@[simp] theorem State.installCurrent_readAt (c : Nat) :
    (s.installCurrent c).readAt = s.readAt := rfl
@[simp] theorem State.installCurrent_alloc (c : Nat) :
    (s.installCurrent c).alloc = s.alloc := rfl
@[simp] theorem State.installCurrent_outputs (c : Nat) :
    (s.installCurrent c).outputs = s.outputs := rfl
@[simp] theorem State.installCurrent_slowOn (c : Nat) :
    (s.installCurrent c).slowOn = s.slowOn := rfl
@[simp] theorem State.installCurrent_fastOn (c : Nat) :
    (s.installCurrent c).fastOn = s.fastOn := rfl
@[simp] theorem State.installCurrent_authority (c : Nat) :
    (s.installCurrent c).authority = s.authority := rfl
@[simp] theorem State.installCurrent_locks (c : Nat) :
    (s.installCurrent c).locks = s.locks := rfl
@[simp] theorem State.installCurrent_link (c : Nat) :
    (s.installCurrent c).link = s.link := rfl
@[simp] theorem State.installCurrent_snaps (c : Nat) :
    (s.installCurrent c).snaps = s.snaps := rfl
@[simp] theorem State.installCurrent_pending (c : Nat) :
    (s.installCurrent c).pending = s.pending := rfl

/-! ### markRead -/

@[simp] theorem State.markRead_now :
    (s.markRead).now = s.now := rfl
@[simp] theorem State.markRead_pins :
    (s.markRead).pins = s.pins := rfl
@[simp] theorem State.markRead_runMode :
    (s.markRead).runMode = s.runMode := rfl
@[simp] theorem State.markRead_settings :
    (s.markRead).settings = s.settings := rfl
@[simp] theorem State.markRead_store :
    (s.markRead).store = s.store := rfl
@[simp] theorem State.markRead_lines :
    (s.markRead).lines = s.lines := rfl
@[simp] theorem State.markRead_doors :
    (s.markRead).doors = s.doors := rfl
@[simp] theorem State.markRead_fire :
    (s.markRead).fire = s.fire := rfl
@[simp] theorem State.markRead_activity :
    (s.markRead).activity = s.activity := rfl
@[simp] theorem State.markRead_channels :
    (s.markRead).channels = s.channels := rfl
@[simp] theorem State.markRead_zones :
    (s.markRead).zones = s.zones := rfl
@[simp] theorem State.markRead_clock :
    (s.markRead).clock = s.clock := rfl
@[simp] theorem State.markRead_programme :
    (s.markRead).programme = s.programme := rfl
@[simp] theorem State.markRead_queue :
    (s.markRead).queue = s.queue := rfl
@[simp] theorem State.markRead_readAt :
    (s.markRead).readAt = s.currentSlot := rfl
@[simp] theorem State.markRead_alloc :
    (s.markRead).alloc = s.alloc := rfl
@[simp] theorem State.markRead_outputs :
    (s.markRead).outputs = s.outputs := rfl
@[simp] theorem State.markRead_slowOn :
    (s.markRead).slowOn = s.slowOn := rfl
@[simp] theorem State.markRead_fastOn :
    (s.markRead).fastOn = s.fastOn := rfl
@[simp] theorem State.markRead_authority :
    (s.markRead).authority = s.authority := rfl
@[simp] theorem State.markRead_locks :
    (s.markRead).locks = s.locks := rfl
@[simp] theorem State.markRead_link :
    (s.markRead).link = s.link := rfl
@[simp] theorem State.markRead_snaps :
    (s.markRead).snaps = s.snaps := rfl
@[simp] theorem State.markRead_pending :
    (s.markRead).pending = s.pending := rfl

/-! ### receive -/

@[simp] theorem State.receive_now (p : Port) (bytes : List Byte) :
    (s.receive p bytes).now = s.now := rfl
@[simp] theorem State.receive_pins (p : Port) (bytes : List Byte) :
    (s.receive p bytes).pins = s.pins := rfl
@[simp] theorem State.receive_runMode (p : Port) (bytes : List Byte) :
    (s.receive p bytes).runMode = s.runMode := rfl
@[simp] theorem State.receive_settings (p : Port) (bytes : List Byte) :
    (s.receive p bytes).settings = s.settings := rfl
@[simp] theorem State.receive_store (p : Port) (bytes : List Byte) :
    (s.receive p bytes).store = s.store := rfl
@[simp] theorem State.receive_lines (p : Port) (bytes : List Byte) :
    (s.receive p bytes).lines = s.lines := rfl
@[simp] theorem State.receive_doors (p : Port) (bytes : List Byte) :
    (s.receive p bytes).doors = s.doors := rfl
@[simp] theorem State.receive_fire (p : Port) (bytes : List Byte) :
    (s.receive p bytes).fire = s.fire := rfl
@[simp] theorem State.receive_activity (p : Port) (bytes : List Byte) :
    (s.receive p bytes).activity = s.activity := rfl
@[simp] theorem State.receive_channels (p : Port) (bytes : List Byte) :
    (s.receive p bytes).channels = s.channels := rfl
@[simp] theorem State.receive_zones (p : Port) (bytes : List Byte) :
    (s.receive p bytes).zones = s.zones := rfl
@[simp] theorem State.receive_clock (p : Port) (bytes : List Byte) :
    (s.receive p bytes).clock = s.clock := rfl
@[simp] theorem State.receive_programme (p : Port) (bytes : List Byte) :
    (s.receive p bytes).programme = s.programme := rfl
@[simp] theorem State.receive_queue (p : Port) (bytes : List Byte) :
    (s.receive p bytes).queue = s.queue := rfl
@[simp] theorem State.receive_readAt (p : Port) (bytes : List Byte) :
    (s.receive p bytes).readAt = s.readAt := rfl
@[simp] theorem State.receive_alloc (p : Port) (bytes : List Byte) :
    (s.receive p bytes).alloc = s.alloc := rfl
@[simp] theorem State.receive_outputs (p : Port) (bytes : List Byte) :
    (s.receive p bytes).outputs = s.outputs := rfl
@[simp] theorem State.receive_slowOn (p : Port) (bytes : List Byte) :
    (s.receive p bytes).slowOn = s.slowOn := rfl
@[simp] theorem State.receive_fastOn (p : Port) (bytes : List Byte) :
    (s.receive p bytes).fastOn = s.fastOn := rfl
@[simp] theorem State.receive_authority (p : Port) (bytes : List Byte) :
    (s.receive p bytes).authority = s.authority := rfl
@[simp] theorem State.receive_locks (p : Port) (bytes : List Byte) :
    (s.receive p bytes).locks = s.locks := rfl
@[simp] theorem State.receive_link (p : Port) (bytes : List Byte) :
    (s.receive p bytes).link = s.link := rfl
@[simp] theorem State.receive_snaps (p : Port) (bytes : List Byte) :
    (s.receive p bytes).snaps = s.snaps := rfl
@[simp] theorem State.receive_pending (p : Port) (bytes : List Byte) :
    (s.receive p bytes).pending = s.pending ++ decodeFrames p s.site.station s.pins.levels s.pins.codes bytes := rfl

/-! ### clearClaim -/

@[simp] theorem State.clearClaim_now :
    (s.clearClaim).now = s.now := rfl
@[simp] theorem State.clearClaim_pins :
    (s.clearClaim).pins = s.pins := rfl
@[simp] theorem State.clearClaim_runMode :
    (s.clearClaim).runMode = s.runMode := rfl
@[simp] theorem State.clearClaim_settings :
    (s.clearClaim).settings = s.settings := rfl
@[simp] theorem State.clearClaim_store :
    (s.clearClaim).store = s.store := rfl
@[simp] theorem State.clearClaim_lines :
    (s.clearClaim).lines = s.lines := rfl
@[simp] theorem State.clearClaim_doors :
    (s.clearClaim).doors = s.doors := rfl
@[simp] theorem State.clearClaim_fire :
    (s.clearClaim).fire = s.fire := rfl
@[simp] theorem State.clearClaim_activity :
    (s.clearClaim).activity = s.activity := rfl
@[simp] theorem State.clearClaim_channels :
    (s.clearClaim).channels = s.channels := rfl
@[simp] theorem State.clearClaim_zones :
    (s.clearClaim).zones = s.zones := rfl
@[simp] theorem State.clearClaim_clock :
    (s.clearClaim).clock = s.clock := rfl
@[simp] theorem State.clearClaim_programme :
    (s.clearClaim).programme = s.programme := rfl
@[simp] theorem State.clearClaim_queue :
    (s.clearClaim).queue = s.queue := rfl
@[simp] theorem State.clearClaim_readAt :
    (s.clearClaim).readAt = s.readAt := rfl
@[simp] theorem State.clearClaim_alloc :
    (s.clearClaim).alloc = s.alloc := rfl
@[simp] theorem State.clearClaim_outputs :
    (s.clearClaim).outputs = s.outputs := rfl
@[simp] theorem State.clearClaim_slowOn :
    (s.clearClaim).slowOn = s.slowOn := rfl
@[simp] theorem State.clearClaim_fastOn :
    (s.clearClaim).fastOn = s.fastOn := rfl
@[simp] theorem State.clearClaim_authority :
    (s.clearClaim).authority = { s.authority with claim := none } := rfl
@[simp] theorem State.clearClaim_locks :
    (s.clearClaim).locks = s.locks := rfl
@[simp] theorem State.clearClaim_link :
    (s.clearClaim).link = s.link := rfl
@[simp] theorem State.clearClaim_snaps :
    (s.clearClaim).snaps = s.snaps := rfl
@[simp] theorem State.clearClaim_pending :
    (s.clearClaim).pending = s.pending := rfl

/-! ### updPort: only the link changes -/

@[simp] theorem State.updPort_now (p : Port) (f : PortRec → PortRec) : (s.updPort p f).now = s.now := by
  cases p <;> rfl
@[simp] theorem State.updPort_pins (p : Port) (f : PortRec → PortRec) : (s.updPort p f).pins = s.pins := by
  cases p <;> rfl
@[simp] theorem State.updPort_runMode (p : Port) (f : PortRec → PortRec) : (s.updPort p f).runMode = s.runMode := by
  cases p <;> rfl
@[simp] theorem State.updPort_settings (p : Port) (f : PortRec → PortRec) : (s.updPort p f).settings = s.settings := by
  cases p <;> rfl
@[simp] theorem State.updPort_store (p : Port) (f : PortRec → PortRec) : (s.updPort p f).store = s.store := by
  cases p <;> rfl
@[simp] theorem State.updPort_lines (p : Port) (f : PortRec → PortRec) : (s.updPort p f).lines = s.lines := by
  cases p <;> rfl
@[simp] theorem State.updPort_doors (p : Port) (f : PortRec → PortRec) : (s.updPort p f).doors = s.doors := by
  cases p <;> rfl
@[simp] theorem State.updPort_fire (p : Port) (f : PortRec → PortRec) : (s.updPort p f).fire = s.fire := by
  cases p <;> rfl
@[simp] theorem State.updPort_activity (p : Port) (f : PortRec → PortRec) : (s.updPort p f).activity = s.activity := by
  cases p <;> rfl
@[simp] theorem State.updPort_channels (p : Port) (f : PortRec → PortRec) : (s.updPort p f).channels = s.channels := by
  cases p <;> rfl
@[simp] theorem State.updPort_zones (p : Port) (f : PortRec → PortRec) : (s.updPort p f).zones = s.zones := by
  cases p <;> rfl
@[simp] theorem State.updPort_clock (p : Port) (f : PortRec → PortRec) : (s.updPort p f).clock = s.clock := by
  cases p <;> rfl
@[simp] theorem State.updPort_programme (p : Port) (f : PortRec → PortRec) : (s.updPort p f).programme = s.programme := by
  cases p <;> rfl
@[simp] theorem State.updPort_queue (p : Port) (f : PortRec → PortRec) : (s.updPort p f).queue = s.queue := by
  cases p <;> rfl
@[simp] theorem State.updPort_readAt (p : Port) (f : PortRec → PortRec) : (s.updPort p f).readAt = s.readAt := by
  cases p <;> rfl
@[simp] theorem State.updPort_alloc (p : Port) (f : PortRec → PortRec) : (s.updPort p f).alloc = s.alloc := by
  cases p <;> rfl
@[simp] theorem State.updPort_outputs (p : Port) (f : PortRec → PortRec) : (s.updPort p f).outputs = s.outputs := by
  cases p <;> rfl
@[simp] theorem State.updPort_slowOn (p : Port) (f : PortRec → PortRec) : (s.updPort p f).slowOn = s.slowOn := by
  cases p <;> rfl
@[simp] theorem State.updPort_fastOn (p : Port) (f : PortRec → PortRec) : (s.updPort p f).fastOn = s.fastOn := by
  cases p <;> rfl
@[simp] theorem State.updPort_authority (p : Port) (f : PortRec → PortRec) : (s.updPort p f).authority = s.authority := by
  cases p <;> rfl
@[simp] theorem State.updPort_locks (p : Port) (f : PortRec → PortRec) : (s.updPort p f).locks = s.locks := by
  cases p <;> rfl
@[simp] theorem State.updPort_snaps (p : Port) (f : PortRec → PortRec) : (s.updPort p f).snaps = s.snaps := by
  cases p <;> rfl
@[simp] theorem State.updPort_pending (p : Port) (f : PortRec → PortRec) : (s.updPort p f).pending = s.pending := by
  cases p <;> rfl
@[simp] theorem State.updPort_sup (f : PortRec → PortRec) :
    (s.updPort .supervisor f).link = { s.link with sup := f s.link.sup } := rfl
@[simp] theorem State.updPort_pan (f : PortRec → PortRec) :
    (s.updPort .panel f).link = { s.link with pan := f s.link.pan } := rfl
@[simp] theorem State.updPort_notices (p : Port) (f : PortRec → PortRec) :
    (s.updPort p f).link.notices = s.link.notices := by cases p <;> rfl
@[simp] theorem State.port_updPort (p : Port) (f : PortRec → PortRec) : (s.updPort p f).port p = f (s.port p) := by
  cases p <;> rfl
theorem State.port_updPort_other {p r : Port} (h : r ≠ p) (f : PortRec → PortRec) :
    (s.updPort p f).port r = s.port r := by cases p <;> cases r <;> first | rfl | exact absurd rfl h
@[simp] theorem State.updPort_updPort (p : Port) (f g : PortRec → PortRec) :
    (s.updPort p f).updPort p g = s.updPort p (fun r => g (f r)) := by cases p <;> rfl

/-! ### raise and raiseTo: only the link changes -/

@[simp] theorem State.raiseTo_now (p : Port) (k : EventKind) (a b : Nat) : (s.raiseTo p k a b).now = s.now := by
  simp [State.raiseTo]
@[simp] theorem State.raiseTo_pins (p : Port) (k : EventKind) (a b : Nat) : (s.raiseTo p k a b).pins = s.pins := by
  simp [State.raiseTo]
@[simp] theorem State.raiseTo_runMode (p : Port) (k : EventKind) (a b : Nat) : (s.raiseTo p k a b).runMode = s.runMode := by
  simp [State.raiseTo]
@[simp] theorem State.raiseTo_settings (p : Port) (k : EventKind) (a b : Nat) : (s.raiseTo p k a b).settings = s.settings := by
  simp [State.raiseTo]
@[simp] theorem State.raiseTo_store (p : Port) (k : EventKind) (a b : Nat) : (s.raiseTo p k a b).store = s.store := by
  simp [State.raiseTo]
@[simp] theorem State.raiseTo_lines (p : Port) (k : EventKind) (a b : Nat) : (s.raiseTo p k a b).lines = s.lines := by
  simp [State.raiseTo]
@[simp] theorem State.raiseTo_doors (p : Port) (k : EventKind) (a b : Nat) : (s.raiseTo p k a b).doors = s.doors := by
  simp [State.raiseTo]
@[simp] theorem State.raiseTo_fire (p : Port) (k : EventKind) (a b : Nat) : (s.raiseTo p k a b).fire = s.fire := by
  simp [State.raiseTo]
@[simp] theorem State.raiseTo_activity (p : Port) (k : EventKind) (a b : Nat) : (s.raiseTo p k a b).activity = s.activity := by
  simp [State.raiseTo]
@[simp] theorem State.raiseTo_channels (p : Port) (k : EventKind) (a b : Nat) : (s.raiseTo p k a b).channels = s.channels := by
  simp [State.raiseTo]
@[simp] theorem State.raiseTo_zones (p : Port) (k : EventKind) (a b : Nat) : (s.raiseTo p k a b).zones = s.zones := by
  simp [State.raiseTo]
@[simp] theorem State.raiseTo_clock (p : Port) (k : EventKind) (a b : Nat) : (s.raiseTo p k a b).clock = s.clock := by
  simp [State.raiseTo]
@[simp] theorem State.raiseTo_programme (p : Port) (k : EventKind) (a b : Nat) : (s.raiseTo p k a b).programme = s.programme := by
  simp [State.raiseTo]
@[simp] theorem State.raiseTo_queue (p : Port) (k : EventKind) (a b : Nat) : (s.raiseTo p k a b).queue = s.queue := by
  simp [State.raiseTo]
@[simp] theorem State.raiseTo_readAt (p : Port) (k : EventKind) (a b : Nat) : (s.raiseTo p k a b).readAt = s.readAt := by
  simp [State.raiseTo]
@[simp] theorem State.raiseTo_alloc (p : Port) (k : EventKind) (a b : Nat) : (s.raiseTo p k a b).alloc = s.alloc := by
  simp [State.raiseTo]
@[simp] theorem State.raiseTo_outputs (p : Port) (k : EventKind) (a b : Nat) : (s.raiseTo p k a b).outputs = s.outputs := by
  simp [State.raiseTo]
@[simp] theorem State.raiseTo_slowOn (p : Port) (k : EventKind) (a b : Nat) : (s.raiseTo p k a b).slowOn = s.slowOn := by
  simp [State.raiseTo]
@[simp] theorem State.raiseTo_fastOn (p : Port) (k : EventKind) (a b : Nat) : (s.raiseTo p k a b).fastOn = s.fastOn := by
  simp [State.raiseTo]
@[simp] theorem State.raiseTo_authority (p : Port) (k : EventKind) (a b : Nat) : (s.raiseTo p k a b).authority = s.authority := by
  simp [State.raiseTo]
@[simp] theorem State.raiseTo_locks (p : Port) (k : EventKind) (a b : Nat) : (s.raiseTo p k a b).locks = s.locks := by
  simp [State.raiseTo]
@[simp] theorem State.raiseTo_snaps (p : Port) (k : EventKind) (a b : Nat) : (s.raiseTo p k a b).snaps = s.snaps := by
  simp [State.raiseTo]
@[simp] theorem State.raiseTo_pending (p : Port) (k : EventKind) (a b : Nat) : (s.raiseTo p k a b).pending = s.pending := by
  simp [State.raiseTo]
@[simp] theorem State.raise_now (k : EventKind) (a b : Nat) : (s.raise k a b).now = s.now := by
  simp [State.raise]
@[simp] theorem State.raise_pins (k : EventKind) (a b : Nat) : (s.raise k a b).pins = s.pins := by
  simp [State.raise]
@[simp] theorem State.raise_runMode (k : EventKind) (a b : Nat) : (s.raise k a b).runMode = s.runMode := by
  simp [State.raise]
@[simp] theorem State.raise_settings (k : EventKind) (a b : Nat) : (s.raise k a b).settings = s.settings := by
  simp [State.raise]
@[simp] theorem State.raise_store (k : EventKind) (a b : Nat) : (s.raise k a b).store = s.store := by
  simp [State.raise]
@[simp] theorem State.raise_lines (k : EventKind) (a b : Nat) : (s.raise k a b).lines = s.lines := by
  simp [State.raise]
@[simp] theorem State.raise_doors (k : EventKind) (a b : Nat) : (s.raise k a b).doors = s.doors := by
  simp [State.raise]
@[simp] theorem State.raise_fire (k : EventKind) (a b : Nat) : (s.raise k a b).fire = s.fire := by
  simp [State.raise]
@[simp] theorem State.raise_activity (k : EventKind) (a b : Nat) : (s.raise k a b).activity = s.activity := by
  simp [State.raise]
@[simp] theorem State.raise_channels (k : EventKind) (a b : Nat) : (s.raise k a b).channels = s.channels := by
  simp [State.raise]
@[simp] theorem State.raise_zones (k : EventKind) (a b : Nat) : (s.raise k a b).zones = s.zones := by
  simp [State.raise]
@[simp] theorem State.raise_clock (k : EventKind) (a b : Nat) : (s.raise k a b).clock = s.clock := by
  simp [State.raise]
@[simp] theorem State.raise_programme (k : EventKind) (a b : Nat) : (s.raise k a b).programme = s.programme := by
  simp [State.raise]
@[simp] theorem State.raise_queue (k : EventKind) (a b : Nat) : (s.raise k a b).queue = s.queue := by
  simp [State.raise]
@[simp] theorem State.raise_readAt (k : EventKind) (a b : Nat) : (s.raise k a b).readAt = s.readAt := by
  simp [State.raise]
@[simp] theorem State.raise_alloc (k : EventKind) (a b : Nat) : (s.raise k a b).alloc = s.alloc := by
  simp [State.raise]
@[simp] theorem State.raise_outputs (k : EventKind) (a b : Nat) : (s.raise k a b).outputs = s.outputs := by
  simp [State.raise]
@[simp] theorem State.raise_slowOn (k : EventKind) (a b : Nat) : (s.raise k a b).slowOn = s.slowOn := by
  simp [State.raise]
@[simp] theorem State.raise_fastOn (k : EventKind) (a b : Nat) : (s.raise k a b).fastOn = s.fastOn := by
  simp [State.raise]
@[simp] theorem State.raise_authority (k : EventKind) (a b : Nat) : (s.raise k a b).authority = s.authority := by
  simp [State.raise]
@[simp] theorem State.raise_locks (k : EventKind) (a b : Nat) : (s.raise k a b).locks = s.locks := by
  simp [State.raise]
@[simp] theorem State.raise_snaps (k : EventKind) (a b : Nat) : (s.raise k a b).snaps = s.snaps := by
  simp [State.raise]
@[simp] theorem State.raise_pending (k : EventKind) (a b : Nat) : (s.raise k a b).pending = s.pending := by
  simp [State.raise]

end Sys2Proof.Machine
end

