-- ==== Sys2Proof/Laws/Ops.lean ====
section
/-! SUPPORT. What each shared operation can do, said once: repetition over numbered records, events, a load output's
response to requests, grants and forcings, purge requests and locks. -/

namespace Sys2Proof.Machine

/-! ### Reading a record after a change -/

theorem getD_modify {α : Type} (l : List α) (i j : Nat) (f : α → α) (d : α) (h : j < l.length) :
    (l.modify i f).getD j d = if i = j then f (l.getD j d) else l.getD j d := by
  have hj : l[j]? = some l[j] := List.getElem?_eq_getElem h
  rw [List.getD_eq_getElem?_getD, List.getElem?_modify, List.getD_eq_getElem?_getD, hj]
  split <;> simp

theorem State.out_updOut (s : State) (o i : Nat) (f : OutputRec → OutputRec) (h : i < s.outputs.length) :
    (s.updOut o f).out i = if o = i then f (s.out i) else s.out i := getD_modify _ _ _ _ _ h
theorem State.zone_updZone (s : State) (z i : Nat) (f : ZoneRec → ZoneRec) (h : i < s.zones.length) :
    (s.updZone z f).zone i = if z = i then f (s.zone i) else s.zone i := getD_modify _ _ _ _ _ h
theorem State.door_updDoor (s : State) (d i : Nat) (f : DoorRec → DoorRec) (h : i < s.doors.length) :
    (s.updDoor d f).door i = if d = i then f (s.door i) else s.door i := getD_modify _ _ _ _ _ h
theorem State.line_updLine (s : State) (l i : Nat) (f : LineRec → LineRec) (h : i < s.lines.length) :
    (s.updLine l f).line i = if l = i then f (s.line i) else s.line i := getD_modify _ _ _ _ _ h
theorem State.chan_updChan (s : State) (c i : Nat) (f : ChannelRec → ChannelRec) (h : i < s.channels.length) :
    (s.updChan c f).chan i = if c = i then f (s.chan i) else s.chan i := getD_modify _ _ _ _ _ h

/-! ### Repetition over numbered records -/

/-- What each repetition keeps, all of them keep. -/
theorem State.forEach_keeps (P : State → Prop) (s : State) (n : Nat) (f : Nat → State → State)
    (step : ∀ i t, i < n → P t → P (f i t)) (start : P s) : P (s.forEach n f) := by
  have key : ∀ (l : List Nat) (t : State), (∀ i ∈ l, i < n) → P t → P (l.foldl (fun t i => f i t) t) := by
    intro l
    induction l with
    | nil => intro t _ h; exact h
    | cons i l ih =>
      intro t hl h
      exact ih _ (fun j hj => hl j (List.mem_cons_of_mem _ hj)) (step i t (hl i List.mem_cons_self) h)
  exact key _ _ (fun i hi => List.mem_range.mp hi) start

/-- A view no repetition changes stands after all of them. -/
theorem State.forEach_frame {α : Sort _} (g : State → α) (s : State) (n : Nat) (f : Nat → State → State)
    (step : ∀ i t, i < n → g (f i t) = g t) : g (s.forEach n f) = g s :=
  State.forEach_keeps (fun t => g t = g s) s n f (fun i t hi h => (step i t hi).trans h) rfl

/-- Changing each record below `n` by its number changes the list at those places. -/
theorem foldl_modify {α : Type} (g : Nat → α → α) (l : List α) (n : Nat) :
    (List.range n).foldl (fun l i => l.modify i (g i)) l = l.mapIdx fun i x => if i < n then g i x else x := by
  induction n with
  | zero => simp [List.mapIdx_eq_zipIdx_map]
  | succ n ih =>
    rw [List.range_succ, List.foldl_append, ih]
    apply List.ext_getElem?
    intro j
    by_cases hj : n = j
    · subst hj; cases h : l[n]? <;> simp [List.getElem?_mapIdx, h]
    · cases h : l[j]? <;> simp [List.getElem?_mapIdx, h, hj]
      split <;> split <;> first | rfl | omega

/-- The outputs below `n` changed one after another, each by its own change. -/
theorem State.forEach_updOut (s : State) (n : Nat) (g : Nat → OutputRec → OutputRec) :
    s.forEach n (fun o t => t.updOut o (g o)) =
      { s with outputs := s.outputs.mapIdx fun o r => if o < n then g o r else r } := by
  have key : ∀ (l : List Nat) (t : State), l.foldl (fun t i => t.updOut i (g i)) t =
      { t with outputs := l.foldl (fun l i => l.modify i (g i)) t.outputs } := by
    intro l
    induction l with
    | nil => intro t; rfl
    | cons i l ih => intro t; rw [List.foldl_cons, ih]; rfl
  rw [State.forEach, key, foldl_modify]

/-- The zones below `n` changed one after another, each by its own change. -/
theorem State.forEach_updZone (s : State) (n : Nat) (g : Nat → ZoneRec → ZoneRec) :
    s.forEach n (fun z t => t.updZone z (g z)) =
      { s with zones := s.zones.mapIdx fun z r => if z < n then g z r else r } := by
  have key : ∀ (l : List Nat) (t : State), l.foldl (fun t i => t.updZone i (g i)) t =
      { t with zones := l.foldl (fun l i => l.modify i (g i)) t.zones } := by
    intro l
    induction l with
    | nil => intro t; rfl
    | cons i l ih => intro t; rw [List.foldl_cons, ih]; rfl
  rw [State.forEach, key, foldl_modify]

/-! ### Events (R176) -/

/-- Appending keeps the queue at 24 and the lost count at 255. -/
theorem PortRec.push_bounds (p : PortRec) (e : EventRec) (h : p.events.length ≤ 24 ∧ p.lost ≤ 255) :
    (p.push e).events.length ≤ 24 ∧ (p.push e).lost ≤ 255 := by
  unfold PortRec.push
  split
  · simp; omega
  · simp; omega

/-- Appending changes nothing of a port but its queue and its lost count. -/
theorem PortRec.push_eq (p : PortRec) (e : EventRec) :
    p.push e = { p with events := (p.push e).events, lost := (p.push e).lost } := by
  unfold PortRec.push; split <;> rfl

/-- Raising an event changes nothing but the link. -/
theorem State.raise_eq (s : State) (k : EventKind) (a b : Nat) :
    s.raise k a b = { s with link := (s.raise k a b).link } := rfl

@[simp] theorem PortRec.push_alive (p : PortRec) (e : EventRec) : (p.push e).alive = p.alive := by
  unfold PortRec.push; split <;> rfl
@[simp] theorem PortRec.push_rate (p : PortRec) (e : EventRec) : (p.push e).rate = p.rate := by
  unfold PortRec.push; split <;> rfl
@[simp] theorem PortRec.push_lastFrame (p : PortRec) (e : EventRec) : (p.push e).lastFrame = p.lastFrame := by
  unfold PortRec.push; split <;> rfl
@[simp] theorem PortRec.push_sending (p : PortRec) (e : EventRec) : (p.push e).sending = p.sending := by
  unfold PortRec.push; split <;> rfl

/-- The record of an event queued to one port, with its notice where one is formed. -/
theorem State.port_raiseTo (s : State) (p r : Port) (k : EventKind) (a b : Nat) :
    ((s.raiseTo p k a b).port r).events = (if r = p then (s.port r).push (s.eventNow k a b) else s.port r).events ∧
    ((s.raiseTo p k a b).port r).lost = (if r = p then (s.port r).push (s.eventNow k a b) else s.port r).lost ∧
    ((s.raiseTo p k a b).port r).alive = (s.port r).alive ∧ ((s.raiseTo p k a b).port r).rate = (s.port r).rate ∧
    ((s.raiseTo p k a b).port r).lastFrame = (s.port r).lastFrame ∧
    ((s.raiseTo p k a b).port r).sending = (s.port r).sending ∧
    ((s.raiseTo p k a b).port r).dwellStart = (s.port r).dwellStart := by
  by_cases h : r = p
  · subst h
    rw [State.raiseTo, State.port_updPort]
    split <;> simp [PortRec.push] <;> split <;> simp
  · rw [State.raiseTo, State.port_updPort_other s h, if_neg h]
    exact ⟨rfl, rfl, rfl, rfl, rfl, rfl, rfl⟩

@[simp] theorem State.raise_alive (s : State) (p : Port) (k : EventKind) (a b : Nat) :
    ((s.raise k a b).port p).alive = (s.port p).alive := by
  rw [State.raise, (State.port_raiseTo _ _ _ _ _ _).2.2.1, (State.port_raiseTo _ _ _ _ _ _).2.2.1]
@[simp] theorem State.raise_notices (s : State) (k : EventKind) (a b : Nat) :
    (s.raise k a b).link.notices = s.link.notices := by simp [State.raise, State.raiseTo]

/-! ### Load outputs (R144, R149 to R152, R157) -/

/-- The hold a time begins. -/
theorem holdFor_eq (h : Hold) (n : Nat) : holdFor h n = if n = 0 then .none else h := rfl

/-- A grant switches an output ON only where nothing forces it, and stamps the last on time then. -/
theorem OutputRec.takeGrant_spec (now : Nat) (c : OutputConfig) (t : Bool) (r : OutputRec) :
    (r.takeGrant now c t).grant = (if t then .tier0 else .granted) ∧
    (r.takeGrant now c t).forced = r.forced ∧ (r.takeGrant now c t).testEnd = r.testEnd ∧
    (r.takeGrant now c t).request = r.request ∧
    (r.forced ≠ .none → (r.takeGrant now c t).drive = r.drive) ∧
    (r.drive = true → (r.takeGrant now c t).drive = true ∧ (r.takeGrant now c t).lastOn = r.lastOn) := by
  unfold OutputRec.takeGrant
  simp only []
  split
  · next h => simp_all [OutputRec.switchOn]
  · simp

/-- A lapse leaves an output OFF and ungranted, its last off time stamped only where it was ON. -/
theorem OutputRec.lapse_spec (now : Nat) (c : OutputConfig) (r : OutputRec) :
    (r.lapse now c).drive = false ∧ (r.lapse now c).grant = .none ∧ (r.lapse now c).forced = r.forced ∧
    (r.lapse now c).testEnd = r.testEnd ∧ (r.lapse now c).request = r.request ∧
    (r.lapse now c).lastOff = if r.drive = true then some now else r.lastOff := by
  unfold OutputRec.lapse
  split <;> simp_all [OutputRec.switchOff]

/-- A request placed is the request held; it touches no forcing, no test and no commanded value, and cannot switch ON an
output that is forced. -/
theorem OutputRec.place_spec (now : Nat) (c : OutputConfig) (req : Option Nat) (r : OutputRec) :
    (r.place now c req).request = req ∧ (r.place now c req).forced = r.forced ∧
    (r.place now c req).testEnd = r.testEnd ∧ (r.place now c req).commanded = r.commanded ∧
    (r.forced ≠ .none → r.drive = false → (r.place now c req).drive = false) := by
  unfold OutputRec.place
  split
  · split
    · refine ⟨?_, ?_, ?_, ?_, ?_⟩ <;>
        simp only [OutputRec.takeGrant] <;> split <;> simp_all [OutputRec.switchOn]
    · simp_all
  · simp_all
  · split
    · simp_all
    · refine ⟨?_, ?_, ?_, ?_, ?_⟩ <;> simp only [OutputRec.lapse] <;> split <;> simp_all [OutputRec.switchOff]

/-- A request placed leaves the record that R144 and R149 tell. -/
theorem OutputRec.place_eq_asked (now : Nat) (c : OutputConfig) (req : Option Nat) (r : OutputRec) :
    r.place now c req = r.asked now c req := by
  obtain ⟨drive, request, grant, hold, lastOn, lastOff, forced, commanded, testEnd⟩ := r
  rcases req with _ | _ | k <;> cases drive <;> cases grant <;> cases hold <;> cases forced <;>
    simp [OutputRec.place, OutputRec.asked, OutputRec.takeGrant, OutputRec.lapse, OutputRec.switchOn, OutputRec.switchOff,
      holdFor]

/-- The end of a test leaves the record that R157 tells. -/
theorem OutputRec.endTest_eq_untested (now : Nat) (c : OutputConfig) (r : OutputRec) :
    r.endTest now c = r.untested now c := by
  obtain ⟨drive, request, grant, hold, lastOn, lastOff, forced, commanded, testEnd⟩ := r
  obtain ⟨f, ref, watts, tier, minOn, minOff⟩ := c
  cases testEnd <;> cases f <;> rfl

/-- Forcing off by fire mode, whatever the output was doing. -/
theorem OutputRec.forceFire_spec (now : Nat) (c : OutputConfig) (r : OutputRec) :
    (r.forceFire now c).drive = false ∧ (r.forceFire now c).forced ≠ .none ∧ (r.forceFire now c).grant = .none ∧
    (r.forceFire now c).request = none ∧ (r.forceFire now c).testEnd = r.testEnd := by
  refine ⟨rfl, ?_, rfl, rfl, rfl⟩
  unfold OutputRec.forceFire
  split <;> simp

/-- Forcing off by STOP, whatever the output was doing. -/
theorem OutputRec.forceStop_spec (now : Nat) (c : OutputConfig) (r : OutputRec) :
    (r.forceStop now c).drive = false ∧ (r.forceStop now c).forced = .stop ∧ (r.forceStop now c).grant = .none ∧
    (r.forceStop now c).request = none ∧
    (r.forceStop now c).lastOff = if r.drive = true then some now else r.lastOff := by
  unfold OutputRec.forceStop
  cases h : r.drive <;> simp [h, OutputRec.switchOff]

/-- An output whose test has ended is under no test, and no test's end switches an output ON. -/
theorem OutputRec.endTest_spec (now : Nat) (c : OutputConfig) (r : OutputRec) :
    (r.endTest now c).testEnd = none ∧ (r.endTest now c).forced = r.forced ∧ (r.endTest now c).request = r.request ∧
    (r.endTest now c).grant = r.grant ∧ (r.drive = false → (r.endTest now c).drive = false) := by
  unfold OutputRec.endTest
  split
  · next h => exact ⟨h, rfl, rfl, rfl, id⟩
  · split <;> simp_all [OutputRec.switchOff]

/-- Placing a request changes the outputs alone. -/
theorem State.place_eq (s : State) (o : Nat) (req : Option Nat) :
    s.place o req = { s with outputs := s.outputs.modify o (OutputRec.place s.now (s.outCfg o) req) } := rfl

/-- Ending every test changes the outputs alone, and leaves none under test. -/
theorem State.endTests_frame (s : State) : s.endTests = { s with outputs := s.endTests.outputs } := by
  unfold State.endTests
  exact State.forEach_keeps (fun t => t = { s with outputs := t.outputs }) s 40 _
    (fun o t _ h => by rw [h]; rfl) rfl

/-- Placing a zone's requests changes the outputs alone. -/
theorem State.placeUnits_frame (s : State) (f : OutputFunction) (z : Nat) (tier : Nat → Nat → Option Nat) :
    s.placeUnits f z tier = { s with outputs := (s.placeUnits f z tier).outputs } := by
  unfold State.placeUnits
  refine State.forEach_keeps (fun t => t = { s with outputs := t.outputs }) s 40 _ (fun o t _ h => ?_) rfl
  split
  · split
    · rw [h]; rfl
    · exact h
  · exact h

/-! ### Purge requests and locks (R123, R167 to R169) -/

/-- A purge request sets one zone's purge end, or does nothing. -/
theorem State.purgeRequest_eq (s : State) (z minutes : Nat) :
    s.purgeRequest z minutes =
      if s.running = true ∧ s.enabled z = true then
        { s with zones := s.zones.modify z fun r =>
            { r with vent := { r.vent with purgeEnd := some (s.now + 6000 * minutes) } } }
      else s := rfl

/-- Releasing a lock empties it and queues one event; an EMPTY lock is left. -/
theorem State.releaseLock_eq (s : State) (i reason : Nat) :
    s.releaseLock i reason = match s.lock i with
      | none => s
      | some k => ({ s with locks := s.locks.set i none } : State).raise .overrideReleased i
          (reason + 256 * partyCode (some k.owner)) := rfl

/-- Releasing locks changes the locks and the link alone. -/
theorem State.releaseLocks_frame (s : State) (p : Lock → Bool) (reason : Nat) :
    s.releaseLocks p reason =
      { s with locks := (s.releaseLocks p reason).locks, link := (s.releaseLocks p reason).link } := by
  unfold State.releaseLocks
  refine State.forEach_keeps (fun t => t = { s with locks := t.locks, link := t.link }) s 48 _ (fun i t _ h => ?_) rfl
  split
  · unfold State.releaseLock
    split
    · exact h
    · rw [h]; rfl
  · exact h

/-- Releasing locks leaves every port as alive as it was. -/
theorem State.releaseLocks_alive (s : State) (p : Lock → Bool) (reason : Nat) (r : Port) :
    ((s.releaseLocks p reason).port r).alive = (s.port r).alive := by
  unfold State.releaseLocks
  refine State.forEach_frame (fun t => (t.port r).alive) s 48 _ (fun i t _ => ?_)
  split
  · unfold State.releaseLock
    split
    · rfl
    · rw [State.raise_alive]; rfl
  · rfl

end Sys2Proof.Machine
end

