-- ==== Sys2Proof/Laws/PerInstr.lean ====
section
/-! SUPPORT. The per-command family `Parts`: the kind and payload of a well-formed request fit a frame and spell the
command again; a command that is no request has neither. One lemma for each constructor of Instr. -/

namespace Sys2Proof.Laws

open Sys2Proof.Machine

/-- A kind's own code is read as the kind. -/
theorem commandOf_code (p : Port) (k : RequestKind) (b : List Byte) (levels : LineLevels) (codes : List (BitVec 12)) :
    commandOf p (BitVec.ofNat 8 k.code) b levels codes = requestOf p b levels codes k := by
  cases k <;> rfl

/-- A well-formed command's kind and payload fit a frame and spell the command again (R173, R174). -/
def Parts.Statement (i : Instr) : Prop :=
  ∀ (p : Port) (k : Nat) (b : List Byte), i.wf = true → requestParts i = some (p, k, b) →
    k < 256 ∧ b.length ≤ 200 ∧
    ∀ (levels : LineLevels) (codes : List (BitVec 12)),
      (∀ r c l m, i = .restart r c l m → l = levels ∧ m = codes) → commandOf p (BitVec.ofNat 8 k) b levels codes = i

/-- The family's proof for a request whose command its kind and payload alone make. -/
theorem Parts.of_kind (i : Instr) (p : Port) (k : RequestKind) (b : List Byte)
    (parts : requestParts i = some (p, k.code, b)) (long : i.wf = true → payloadOk b = true)
    (same : i.wf = true → ∀ levels codes, (∀ r c l m, i = .restart r c l m → l = levels ∧ m = codes) →
      requestOf p b levels codes k = i) : Parts.Statement i := by
  intro p' k' b' hw h
  rw [parts] at h
  obtain ⟨rfl, rfl, rfl⟩ : p = p' ∧ k.code = k' ∧ b = b' := by simpa using h
  refine ⟨by cases k <;> decide, of_decide_eq_true (long hw), fun levels codes hr => ?_⟩
  rw [commandOf_code]
  exact same hw levels codes hr

/-- A command that is no request has no parts. -/
theorem Parts.of_none (i : Instr) (h : requestParts i = none) : Parts.Statement i := by
  intro p k b _ hp
  rw [h] at hp
  exact nomatch hp

/-- The proof for the six rows of CONFIG WRITE. -/
theorem Parts.of_write (i : Instr) (p : Port) (b : List Byte) (parts : requestParts i = some (p, RequestKind.configWrite.code, b))
    (hw : i.wf = (payloadOk b && configWriteRow p b == i)) : Parts.Statement i :=
  Parts.of_kind i p .configWrite b parts (fun h => by rw [hw, Bool.and_eq_true] at h; exact h.1)
    (fun h _ _ _ => by rw [hw, Bool.and_eq_true] at h; exact eq_of_beq h.2)

namespace Parts

theorem ident (port : Port) (payload : List Byte) : Statement (.ident port payload) :=
  of_kind _ port .ident payload rfl id fun _ _ _ _ => rfl
theorem status (port : Port) (payload : List Byte) : Statement (.status port payload) :=
  of_kind _ port .status payload rfl id fun _ _ _ _ => rfl
theorem configRead (port : Port) (payload : List Byte) : Statement (.configRead port payload) :=
  of_kind _ port .configRead payload rfl id fun _ _ _ _ => rfl
theorem configWriteSite (port : Port) (payload : List Byte) : Statement (.configWriteSite port payload) :=
  of_write _ port payload rfl rfl
theorem configWriteZone (port : Port) (payload : List Byte) : Statement (.configWriteZone port payload) :=
  of_write _ port payload rfl rfl
theorem configWriteDoor (port : Port) (payload : List Byte) : Statement (.configWriteDoor port payload) :=
  of_write _ port payload rfl rfl
theorem configWriteLine (port : Port) (payload : List Byte) : Statement (.configWriteLine port payload) :=
  of_write _ port payload rfl rfl
theorem configWriteChannel (port : Port) (payload : List Byte) : Statement (.configWriteChannel port payload) :=
  of_write _ port payload rfl rfl
theorem configWriteOutput (port : Port) (payload : List Byte) : Statement (.configWriteOutput port payload) :=
  of_write _ port payload rfl rfl
theorem contextRead (port : Port) (payload : List Byte) : Statement (.contextRead port payload) :=
  of_kind _ port .contextRead payload rfl id fun _ _ _ _ => rfl
theorem contextWrite (port : Port) (payload : List Byte) : Statement (.contextWrite port payload) :=
  of_kind _ port .contextWrite payload rfl id fun _ _ _ _ => rfl
theorem contextErase (port : Port) (payload : List Byte) : Statement (.contextErase port payload) :=
  of_kind _ port .contextErase payload rfl id fun _ _ _ _ => rfl
theorem contextCopy (port : Port) (payload : List Byte) : Statement (.contextCopy port payload) :=
  of_kind _ port .contextCopy payload rfl id fun _ _ _ _ => rfl
theorem calendarRead (port : Port) (payload : List Byte) : Statement (.calendarRead port payload) :=
  of_kind _ port .calendarRead payload rfl id fun _ _ _ _ => rfl
theorem calendarWrite (port : Port) (payload : List Byte) : Statement (.calendarWrite port payload) :=
  of_kind _ port .calendarWrite payload rfl id fun _ _ _ _ => rfl
theorem forceShift (port : Port) (payload : List Byte) : Statement (.forceShift port payload) :=
  of_kind _ port .forceShift payload rfl id fun _ _ _ _ => rfl
theorem setClock (port : Port) (payload : List Byte) : Statement (.setClock port payload) :=
  of_kind _ port .setClock payload rfl id fun _ _ _ _ => rfl
theorem start (port : Port) (payload : List Byte) : Statement (.start port payload) :=
  of_kind _ port .start payload rfl id fun _ _ _ _ => rfl
theorem stop (port : Port) (payload : List Byte) : Statement (.stop port payload) :=
  of_kind _ port .stop payload rfl id fun _ _ _ _ => rfl
theorem restart (port : Port) (payload : List Byte) (levels : LineLevels) (codes : List (BitVec 12)) : Statement (.restart port payload levels codes) :=
  of_kind _ port .restart payload rfl (fun h => (Bool.and_eq_true _ _ ▸ h).1) fun _ _ _ hr => by
    obtain ⟨rfl, rfl⟩ := hr port payload levels codes rfl; rfl
theorem save (port : Port) (payload : List Byte) : Statement (.save port payload) :=
  of_kind _ port .save payload rfl id fun _ _ _ _ => rfl
theorem claim (port : Port) (payload : List Byte) : Statement (.claim port payload) :=
  of_kind _ port .claim payload rfl id fun _ _ _ _ => rfl
theorem yield (port : Port) (payload : List Byte) : Statement (.yield port payload) :=
  of_kind _ port .yield payload rfl id fun _ _ _ _ => rfl
theorem decline (port : Port) (payload : List Byte) : Statement (.decline port payload) :=
  of_kind _ port .decline payload rfl id fun _ _ _ _ => rfl
theorem overrideSet (port : Port) (payload : List Byte) : Statement (.overrideSet port payload) :=
  of_kind _ port .overrideSet payload rfl id fun _ _ _ _ => rfl
theorem overrideRelease (port : Port) (payload : List Byte) : Statement (.overrideRelease port payload) :=
  of_kind _ port .overrideRelease payload rfl id fun _ _ _ _ => rfl
theorem overrideBreak (port : Port) (payload : List Byte) : Statement (.overrideBreak port payload) :=
  of_kind _ port .overrideBreak payload rfl id fun _ _ _ _ => rfl
theorem purge (port : Port) (payload : List Byte) : Statement (.purge port payload) :=
  of_kind _ port .purge payload rfl id fun _ _ _ _ => rfl
theorem linesRead (port : Port) (payload : List Byte) : Statement (.linesRead port payload) :=
  of_kind _ port .linesRead payload rfl id fun _ _ _ _ => rfl
theorem linesClear (port : Port) (payload : List Byte) : Statement (.linesClear port payload) :=
  of_kind _ port .linesClear payload rfl id fun _ _ _ _ => rfl
theorem linesMask (port : Port) (payload : List Byte) : Statement (.linesMask port payload) :=
  of_kind _ port .linesMask payload rfl id fun _ _ _ _ => rfl
theorem events (port : Port) (payload : List Byte) : Statement (.events port payload) :=
  of_kind _ port .events payload rfl id fun _ _ _ _ => rfl
theorem snapshot (port : Port) (payload : List Byte) : Statement (.snapshot port payload) :=
  of_kind _ port .snapshot payload rfl id fun _ _ _ _ => rfl
theorem notices (port : Port) (payload : List Byte) : Statement (.notices port payload) :=
  of_kind _ port .notices payload rfl id fun _ _ _ _ => rfl
theorem fireReset (port : Port) (payload : List Byte) : Statement (.fireReset port payload) :=
  of_kind _ port .fireReset payload rfl id fun _ _ _ _ => rfl
theorem outputSet (port : Port) (payload : List Byte) : Statement (.outputSet port payload) :=
  of_kind _ port .outputSet payload rfl id fun _ _ _ _ => rfl
theorem outputTest (port : Port) (payload : List Byte) : Statement (.outputTest port payload) :=
  of_kind _ port .outputTest payload rfl id fun _ _ _ _ => rfl
theorem calibrate (port : Port) (payload : List Byte) : Statement (.calibrate port payload) :=
  of_kind _ port .calibrate payload rfl id fun _ _ _ _ => rfl
theorem unknownKind (port : Port) (kind : Byte) (payload : List Byte) : Statement (.unknownKind port kind payload) := by
  intro p k b hw hp
  obtain ⟨rfl, rfl, rfl⟩ : port = p ∧ kind.toNat = k ∧ payload = b := by simpa [requestParts] using hp
  rw [Instr.wf, Bool.and_eq_true] at hw
  have hk : RequestKind.ofCode kind.toNat = none := Option.isNone_iff_eq_none.mp hw.2
  refine ⟨kind.isLt, of_decide_eq_true hw.1, fun levels codes _ => ?_⟩
  simp [commandOf, hk]
theorem frameDiscard (port : Port) (cause : DiscardCause) : Statement (.frameDiscard port cause) :=
  of_none _ rfl
theorem frameByteTimeout (port : Port) : Statement (.frameByteTimeout port) :=
  of_none _ rfl
theorem frameNotAddressed : Statement (.frameNotAddressed) :=
  of_none _ rfl
theorem baudSearchDwell (port : Port) : Statement (.baudSearchDwell port) :=
  of_none _ rfl
theorem silenceTimeExpiry (port : Port) : Statement (.silenceTimeExpiry port) :=
  of_none _ rfl
theorem notice : Statement (.notice) :=
  of_none _ rfl
theorem powerOn (levels : LineLevels) (codes : List (BitVec 12)) : Statement (.powerOn levels codes) :=
  of_none _ rfl
theorem saveWriteComplete : Statement (.saveWriteComplete) :=
  of_none _ rfl
theorem snapshotComposition : Statement (.snapshotComposition) :=
  of_none _ rfl
theorem debouncedChange (line : Fin 64) : Statement (.debouncedChange line) :=
  of_none _ rfl
theorem heldOpenCheck : Statement (.heldOpenCheck) :=
  of_none _ rfl
theorem channelSample (codes : List (BitVec 12)) : Statement (.channelSample codes) :=
  of_none _ rfl
theorem channelHoldExpiry (channel : Fin 24) : Statement (.channelHoldExpiry channel) :=
  of_none _ rfl
theorem zoneEvaluation : Statement (.zoneEvaluation) :=
  of_none _ rfl
theorem occupancyHoldExpiry (zone : Fin 16) : Statement (.occupancyHoldExpiry zone) :=
  of_none _ rfl
theorem graceExpiry (zone : Fin 16) : Statement (.graceExpiry zone) :=
  of_none _ rfl
theorem downDelayExpiry (zone : Fin 16) : Statement (.downDelayExpiry zone) :=
  of_none _ rfl
theorem purgeEnd (zone : Fin 16) : Statement (.purgeEnd zone) :=
  of_none _ rfl
theorem handoverRampEnd : Statement (.handoverRampEnd) :=
  of_none _ rfl
theorem lateTest : Statement (.lateTest) :=
  of_none _ rfl
theorem lookAheadRead : Statement (.lookAheadRead) :=
  of_none _ rfl
theorem dueEvent : Statement (.dueEvent) :=
  of_none _ rfl
theorem purgeLeadReached (slot : Fin 672) : Statement (.purgeLeadReached slot) :=
  of_none _ rfl
theorem preheatLeadReached (slot : Fin 672) : Statement (.preheatLeadReached slot) :=
  of_none _ rfl
theorem allocationRound : Statement (.allocationRound) :=
  of_none _ rfl
theorem meterSilenceExpiry : Statement (.meterSilenceExpiry) :=
  of_none _ rfl
theorem windowEnd : Statement (.windowEnd) :=
  of_none _ rfl
theorem controlledEnergySecond : Statement (.controlledEnergySecond) :=
  of_none _ rfl
theorem minOnEnd (output : Fin 40) : Statement (.minOnEnd output) :=
  of_none _ rfl
theorem minOffEnd (output : Fin 40) : Statement (.minOffEnd output) :=
  of_none _ rfl
theorem outputTestEnd (output : Fin 40) : Statement (.outputTestEnd output) :=
  of_none _ rfl
theorem claimTimeout : Statement (.claimTimeout) :=
  of_none _ rfl
theorem overrideExpiry (lock : Fin 48) : Statement (.overrideExpiry lock) :=
  of_none _ rfl
theorem lineSample (levels : LineLevels) : Statement (.lineSample levels) :=
  of_none _ rfl
theorem beaconPatternHalf (pattern : BeaconPattern) : Statement (.beaconPatternHalf pattern) :=
  of_none _ rfl
theorem sendComplete (port : Port) : Statement (.sendComplete port) :=
  of_none _ rfl

end Parts

end Sys2Proof.Laws
end

