-- ==== Sys2Proof/Laws/Requests.lean ====
section
/-! SUPPORT. What deciding a request can do, said once: it is discarded, refused by its class, or decided by its body and
answered; and what the shared operations of the handover, the authority and the calendar can do. -/

namespace Sys2Proof.Machine

/-! ### Frames (R173) -/

/-- The bytes of a frame already taken are passed over. -/
theorem decodeRun_eq (p : Port) (station : Nat) (levels : LineLevels) (codes : List (BitVec 12)) (n : Nat)
    (bytes : List Byte) : decodeRun p station levels codes n bytes = decodeFrames p station levels codes (bytes.drop n) := by
  induction bytes generalizing n with
  | nil => cases n <;> rfl
  | cons b rest ih =>
    cases n with
    | zero => rfl
    | succ n => rw [decodeRun]; exact ih n

/-! ### Requests (R164, R173, R174) -/

/-- A request that is not discarded is answered with what its body leaves and replies. -/
theorem State.respond_eq (s : State) (p : Port) (kind : Nat) (body : State → State × Reply) :
    s.respond p kind body =
      s.answered p kind (body (s.framed p)).2.status (body (s.framed p)).2.data (body (s.framed p)).1 := by
  cases p <;> rfl

/-- A request taken by its class and its length is answered by its body. -/
theorem State.serve_taken (s : State) (p : Port) (k : RequestKind) (b : List Byte) (body : State → State × Reply)
    (h : s.takes p b) (ha : (s.framed p).accessRefusal p k.access = none) :
    s.serve p k b body =
      s.answered p k.code (body (s.framed p)).2.status (body (s.framed p)).2.data (body (s.framed p)).1 := by
  have hd : s.discards p b = false := by
    simp only [State.discards, h.1, Bool.false_or, decide_eq_false_iff_not]; have := h.2; omega
  rw [State.serve, hd, if_neg (by simp), State.respond_eq, ha]

/-- A request refused by its class is answered with that status and changes no state but its port's. -/
theorem State.serve_refused (s : State) (p : Port) (k : RequestKind) (b : List Byte) (body : State → State × Reply)
    (st : Status) (h : s.takes p b) (ha : (s.framed p).accessRefusal p k.access = some st) :
    s.serve p k b body = s.refused p k st := by
  have hd : s.discards p b = false := by
    simp only [State.discards, h.1, Bool.false_or, decide_eq_false_iff_not]; have := h.2; omega
  rw [State.serve, hd, if_neg (by simp), State.respond_eq, ha]
  rfl

/-- A request that arrives while the part sends on its port, or that no frame can carry, does nothing but end a search's
dwell. -/
theorem State.serve_discarded (s : State) (p : Port) (k : RequestKind) (b : List Byte) (body : State → State × Reply)
    (h : s.discards p b = true) : s.serve p k b body = s.updPort p (PortRec.discard s.now) := if_pos h

/-- A body behind a length check answers BAD_LENGTH at any other length. -/
theorem withLength_eq (n : Nat) (b : List Byte) (body : State → State × Reply) (s : State) :
    withLength n b body s = if b.length ≠ n then (s, { status := .badLength, data := [] }) else body s := rfl

/-- The class of an authority check does not depend on what a frame does to its port. -/
@[simp] theorem State.framed_accessRefusal (s : State) (p r : Port) (a : Access) :
    (s.framed p).accessRefusal r a = s.accessRefusal r a := by
  cases p <;> cases a <;> rfl

/-! ### Authority (R159 to R163) -/

/-- A change of the holder leaves no claim and queues one event. -/
theorem State.setHolder_eq (s : State) (new : Option Port) (reason : Nat) :
    s.setHolder new reason =
      { s with authority := { holder := new, claim := none }
               link := (s.setHolder new reason).link } := rfl

/-! ### Handover (R71 to R84): fields the operations leave alone -/

@[simp] theorem State.releaseLocks_now (s : State) (p : Lock → Bool) (m : Nat) :
    (s.releaseLocks p m).now = s.now := by rw [State.releaseLocks_frame]
@[simp] theorem State.releaseLocks_pins (s : State) (p : Lock → Bool) (m : Nat) :
    (s.releaseLocks p m).pins = s.pins := by rw [State.releaseLocks_frame]
@[simp] theorem State.releaseLocks_runMode (s : State) (p : Lock → Bool) (m : Nat) :
    (s.releaseLocks p m).runMode = s.runMode := by rw [State.releaseLocks_frame]
@[simp] theorem State.releaseLocks_settings (s : State) (p : Lock → Bool) (m : Nat) :
    (s.releaseLocks p m).settings = s.settings := by rw [State.releaseLocks_frame]
@[simp] theorem State.releaseLocks_store (s : State) (p : Lock → Bool) (m : Nat) :
    (s.releaseLocks p m).store = s.store := by rw [State.releaseLocks_frame]
@[simp] theorem State.releaseLocks_lines (s : State) (p : Lock → Bool) (m : Nat) :
    (s.releaseLocks p m).lines = s.lines := by rw [State.releaseLocks_frame]
@[simp] theorem State.releaseLocks_doors (s : State) (p : Lock → Bool) (m : Nat) :
    (s.releaseLocks p m).doors = s.doors := by rw [State.releaseLocks_frame]
@[simp] theorem State.releaseLocks_fire (s : State) (p : Lock → Bool) (m : Nat) :
    (s.releaseLocks p m).fire = s.fire := by rw [State.releaseLocks_frame]
@[simp] theorem State.releaseLocks_activity (s : State) (p : Lock → Bool) (m : Nat) :
    (s.releaseLocks p m).activity = s.activity := by rw [State.releaseLocks_frame]
@[simp] theorem State.releaseLocks_channels (s : State) (p : Lock → Bool) (m : Nat) :
    (s.releaseLocks p m).channels = s.channels := by rw [State.releaseLocks_frame]
@[simp] theorem State.releaseLocks_zones (s : State) (p : Lock → Bool) (m : Nat) :
    (s.releaseLocks p m).zones = s.zones := by rw [State.releaseLocks_frame]
@[simp] theorem State.releaseLocks_clock (s : State) (p : Lock → Bool) (m : Nat) :
    (s.releaseLocks p m).clock = s.clock := by rw [State.releaseLocks_frame]
@[simp] theorem State.releaseLocks_programme (s : State) (p : Lock → Bool) (m : Nat) :
    (s.releaseLocks p m).programme = s.programme := by rw [State.releaseLocks_frame]
@[simp] theorem State.releaseLocks_queue (s : State) (p : Lock → Bool) (m : Nat) :
    (s.releaseLocks p m).queue = s.queue := by rw [State.releaseLocks_frame]
@[simp] theorem State.releaseLocks_readAt (s : State) (p : Lock → Bool) (m : Nat) :
    (s.releaseLocks p m).readAt = s.readAt := by rw [State.releaseLocks_frame]
@[simp] theorem State.releaseLocks_alloc (s : State) (p : Lock → Bool) (m : Nat) :
    (s.releaseLocks p m).alloc = s.alloc := by rw [State.releaseLocks_frame]
@[simp] theorem State.releaseLocks_outputs (s : State) (p : Lock → Bool) (m : Nat) :
    (s.releaseLocks p m).outputs = s.outputs := by rw [State.releaseLocks_frame]
@[simp] theorem State.releaseLocks_slowOn (s : State) (p : Lock → Bool) (m : Nat) :
    (s.releaseLocks p m).slowOn = s.slowOn := by rw [State.releaseLocks_frame]
@[simp] theorem State.releaseLocks_fastOn (s : State) (p : Lock → Bool) (m : Nat) :
    (s.releaseLocks p m).fastOn = s.fastOn := by rw [State.releaseLocks_frame]
@[simp] theorem State.releaseLocks_authority (s : State) (p : Lock → Bool) (m : Nat) :
    (s.releaseLocks p m).authority = s.authority := by rw [State.releaseLocks_frame]
@[simp] theorem State.releaseLocks_snaps (s : State) (p : Lock → Bool) (m : Nat) :
    (s.releaseLocks p m).snaps = s.snaps := by rw [State.releaseLocks_frame]
@[simp] theorem State.releaseLocks_pending (s : State) (p : Lock → Bool) (m : Nat) :
    (s.releaseLocks p m).pending = s.pending := by rw [State.releaseLocks_frame]

@[simp] theorem State.completionEffects_now (s : State) : s.completionEffects.now = s.now := by
  simp [State.completionEffects]
@[simp] theorem State.completionEffects_pins (s : State) : s.completionEffects.pins = s.pins := by
  simp [State.completionEffects]
@[simp] theorem State.completionEffects_runMode (s : State) : s.completionEffects.runMode = s.runMode := by
  simp [State.completionEffects]
@[simp] theorem State.completionEffects_settings (s : State) : s.completionEffects.settings = s.settings := by
  simp [State.completionEffects]
@[simp] theorem State.completionEffects_store (s : State) : s.completionEffects.store = s.store := by
  simp [State.completionEffects]
@[simp] theorem State.completionEffects_lines (s : State) : s.completionEffects.lines = s.lines := by
  simp [State.completionEffects]
@[simp] theorem State.completionEffects_doors (s : State) : s.completionEffects.doors = s.doors.map fun d => { d with opens := 0, openSeconds := 0 } := by
  simp [State.completionEffects]
@[simp] theorem State.completionEffects_fire (s : State) : s.completionEffects.fire = s.fire := by
  simp [State.completionEffects]
@[simp] theorem State.completionEffects_activity (s : State) : s.completionEffects.activity = s.activity := by
  simp [State.completionEffects]
@[simp] theorem State.completionEffects_channels (s : State) : s.completionEffects.channels = s.channels := by
  simp [State.completionEffects]
@[simp] theorem State.completionEffects_zones (s : State) : s.completionEffects.zones = s.zones := by
  simp [State.completionEffects]
@[simp] theorem State.completionEffects_clock (s : State) : s.completionEffects.clock = s.clock := by
  simp [State.completionEffects]
@[simp] theorem State.completionEffects_programme (s : State) : s.completionEffects.programme = s.programme := by
  simp [State.completionEffects]
@[simp] theorem State.completionEffects_queue (s : State) : s.completionEffects.queue = s.queue := by
  simp [State.completionEffects]
@[simp] theorem State.completionEffects_readAt (s : State) : s.completionEffects.readAt = s.readAt := by
  simp [State.completionEffects]
@[simp] theorem State.completionEffects_alloc (s : State) : s.completionEffects.alloc = s.alloc := by
  simp [State.completionEffects]
@[simp] theorem State.completionEffects_outputs (s : State) : s.completionEffects.outputs = s.outputs := by
  simp [State.completionEffects]
@[simp] theorem State.completionEffects_slowOn (s : State) : s.completionEffects.slowOn = s.slowOn := by
  simp [State.completionEffects]
@[simp] theorem State.completionEffects_fastOn (s : State) : s.completionEffects.fastOn = s.fastOn := by
  simp [State.completionEffects]
@[simp] theorem State.completionEffects_authority (s : State) : s.completionEffects.authority = s.authority := by
  simp [State.completionEffects]
@[simp] theorem State.completionEffects_snaps (s : State) : s.completionEffects.snaps = s.snaps := by
  simp [State.completionEffects]
@[simp] theorem State.completionEffects_pending (s : State) : s.completionEffects.pending = s.pending := by
  simp [State.completionEffects]

/-- A normal completion makes INCOMING the CURRENT context. -/
@[simp] theorem State.completeHandover_programme (s : State) (h : Handover) (b : Bool) :
    (s.completeHandover h b).programme = .current h.incoming := by simp [State.completeHandover]

@[simp] theorem State.completeHandover_now (s : State) (h : Handover) (b : Bool) :
    (s.completeHandover h b).now = s.now := by simp [State.completeHandover]
@[simp] theorem State.completeHandover_pins (s : State) (h : Handover) (b : Bool) :
    (s.completeHandover h b).pins = s.pins := by simp [State.completeHandover]
@[simp] theorem State.completeHandover_runMode (s : State) (h : Handover) (b : Bool) :
    (s.completeHandover h b).runMode = s.runMode := by simp [State.completeHandover]
@[simp] theorem State.completeHandover_settings (s : State) (h : Handover) (b : Bool) :
    (s.completeHandover h b).settings = s.settings := by simp [State.completeHandover]
@[simp] theorem State.completeHandover_store (s : State) (h : Handover) (b : Bool) :
    (s.completeHandover h b).store = s.store := by simp [State.completeHandover]
@[simp] theorem State.completeHandover_lines (s : State) (h : Handover) (b : Bool) :
    (s.completeHandover h b).lines = s.lines := by simp [State.completeHandover]
@[simp] theorem State.completeHandover_fire (s : State) (h : Handover) (b : Bool) :
    (s.completeHandover h b).fire = s.fire := by simp [State.completeHandover]
@[simp] theorem State.completeHandover_activity (s : State) (h : Handover) (b : Bool) :
    (s.completeHandover h b).activity = s.activity := by simp [State.completeHandover]
@[simp] theorem State.completeHandover_channels (s : State) (h : Handover) (b : Bool) :
    (s.completeHandover h b).channels = s.channels := by simp [State.completeHandover]
@[simp] theorem State.completeHandover_zones (s : State) (h : Handover) (b : Bool) :
    (s.completeHandover h b).zones = s.zones := by simp [State.completeHandover]
@[simp] theorem State.completeHandover_clock (s : State) (h : Handover) (b : Bool) :
    (s.completeHandover h b).clock = s.clock := by simp [State.completeHandover]
@[simp] theorem State.completeHandover_queue (s : State) (h : Handover) (b : Bool) :
    (s.completeHandover h b).queue = s.queue := by simp [State.completeHandover]
@[simp] theorem State.completeHandover_readAt (s : State) (h : Handover) (b : Bool) :
    (s.completeHandover h b).readAt = s.readAt := by simp [State.completeHandover]
@[simp] theorem State.completeHandover_alloc (s : State) (h : Handover) (b : Bool) :
    (s.completeHandover h b).alloc = s.alloc := by simp [State.completeHandover]
@[simp] theorem State.completeHandover_outputs (s : State) (h : Handover) (b : Bool) :
    (s.completeHandover h b).outputs = s.outputs := by simp [State.completeHandover]
@[simp] theorem State.completeHandover_slowOn (s : State) (h : Handover) (b : Bool) :
    (s.completeHandover h b).slowOn = s.slowOn := by simp [State.completeHandover]
@[simp] theorem State.completeHandover_fastOn (s : State) (h : Handover) (b : Bool) :
    (s.completeHandover h b).fastOn = s.fastOn := by simp [State.completeHandover]
@[simp] theorem State.completeHandover_authority (s : State) (h : Handover) (b : Bool) :
    (s.completeHandover h b).authority = s.authority := by simp [State.completeHandover]
@[simp] theorem State.completeHandover_snaps (s : State) (h : Handover) (b : Bool) :
    (s.completeHandover h b).snaps = s.snaps := by simp [State.completeHandover]
@[simp] theorem State.completeHandover_pending (s : State) (h : Handover) (b : Bool) :
    (s.completeHandover h b).pending = s.pending := by simp [State.completeHandover]

/-! A new target touches the programme, doors, zones, locks and the link, and nothing else (R71). -/

@[simp] theorem State.takeTarget_now (s : State) (n : Nat) (cause : Cause) : (s.takeTarget n cause).now = s.now := by
  unfold State.takeTarget State.swapInFire State.startHandover State.cancelHandover State.retarget
  dsimp only
  repeat' split
  all_goals simp
@[simp] theorem State.takeTarget_pins (s : State) (n : Nat) (cause : Cause) : (s.takeTarget n cause).pins = s.pins := by
  unfold State.takeTarget State.swapInFire State.startHandover State.cancelHandover State.retarget
  dsimp only
  repeat' split
  all_goals simp
@[simp] theorem State.takeTarget_runMode (s : State) (n : Nat) (cause : Cause) : (s.takeTarget n cause).runMode = s.runMode := by
  unfold State.takeTarget State.swapInFire State.startHandover State.cancelHandover State.retarget
  dsimp only
  repeat' split
  all_goals simp
@[simp] theorem State.takeTarget_settings (s : State) (n : Nat) (cause : Cause) : (s.takeTarget n cause).settings = s.settings := by
  unfold State.takeTarget State.swapInFire State.startHandover State.cancelHandover State.retarget
  dsimp only
  repeat' split
  all_goals simp
@[simp] theorem State.takeTarget_store (s : State) (n : Nat) (cause : Cause) : (s.takeTarget n cause).store = s.store := by
  unfold State.takeTarget State.swapInFire State.startHandover State.cancelHandover State.retarget
  dsimp only
  repeat' split
  all_goals simp
@[simp] theorem State.takeTarget_lines (s : State) (n : Nat) (cause : Cause) : (s.takeTarget n cause).lines = s.lines := by
  unfold State.takeTarget State.swapInFire State.startHandover State.cancelHandover State.retarget
  dsimp only
  repeat' split
  all_goals simp
@[simp] theorem State.takeTarget_fire (s : State) (n : Nat) (cause : Cause) : (s.takeTarget n cause).fire = s.fire := by
  unfold State.takeTarget State.swapInFire State.startHandover State.cancelHandover State.retarget
  dsimp only
  repeat' split
  all_goals simp
@[simp] theorem State.takeTarget_activity (s : State) (n : Nat) (cause : Cause) : (s.takeTarget n cause).activity = s.activity := by
  unfold State.takeTarget State.swapInFire State.startHandover State.cancelHandover State.retarget
  dsimp only
  repeat' split
  all_goals simp
@[simp] theorem State.takeTarget_channels (s : State) (n : Nat) (cause : Cause) : (s.takeTarget n cause).channels = s.channels := by
  unfold State.takeTarget State.swapInFire State.startHandover State.cancelHandover State.retarget
  dsimp only
  repeat' split
  all_goals simp
@[simp] theorem State.takeTarget_clock (s : State) (n : Nat) (cause : Cause) : (s.takeTarget n cause).clock = s.clock := by
  unfold State.takeTarget State.swapInFire State.startHandover State.cancelHandover State.retarget
  dsimp only
  repeat' split
  all_goals simp
@[simp] theorem State.takeTarget_queue (s : State) (n : Nat) (cause : Cause) : (s.takeTarget n cause).queue = s.queue := by
  unfold State.takeTarget State.swapInFire State.startHandover State.cancelHandover State.retarget
  dsimp only
  repeat' split
  all_goals simp
@[simp] theorem State.takeTarget_readAt (s : State) (n : Nat) (cause : Cause) : (s.takeTarget n cause).readAt = s.readAt := by
  unfold State.takeTarget State.swapInFire State.startHandover State.cancelHandover State.retarget
  dsimp only
  repeat' split
  all_goals simp
@[simp] theorem State.takeTarget_alloc (s : State) (n : Nat) (cause : Cause) : (s.takeTarget n cause).alloc = s.alloc := by
  unfold State.takeTarget State.swapInFire State.startHandover State.cancelHandover State.retarget
  dsimp only
  repeat' split
  all_goals simp
@[simp] theorem State.takeTarget_outputs (s : State) (n : Nat) (cause : Cause) : (s.takeTarget n cause).outputs = s.outputs := by
  unfold State.takeTarget State.swapInFire State.startHandover State.cancelHandover State.retarget
  dsimp only
  repeat' split
  all_goals simp
@[simp] theorem State.takeTarget_slowOn (s : State) (n : Nat) (cause : Cause) : (s.takeTarget n cause).slowOn = s.slowOn := by
  unfold State.takeTarget State.swapInFire State.startHandover State.cancelHandover State.retarget
  dsimp only
  repeat' split
  all_goals simp
@[simp] theorem State.takeTarget_fastOn (s : State) (n : Nat) (cause : Cause) : (s.takeTarget n cause).fastOn = s.fastOn := by
  unfold State.takeTarget State.swapInFire State.startHandover State.cancelHandover State.retarget
  dsimp only
  repeat' split
  all_goals simp
@[simp] theorem State.takeTarget_authority (s : State) (n : Nat) (cause : Cause) : (s.takeTarget n cause).authority = s.authority := by
  unfold State.takeTarget State.swapInFire State.startHandover State.cancelHandover State.retarget
  dsimp only
  repeat' split
  all_goals simp
@[simp] theorem State.takeTarget_snaps (s : State) (n : Nat) (cause : Cause) : (s.takeTarget n cause).snaps = s.snaps := by
  unfold State.takeTarget State.swapInFire State.startHandover State.cancelHandover State.retarget
  dsimp only
  repeat' split
  all_goals simp
@[simp] theorem State.takeTarget_pending (s : State) (n : Nat) (cause : Cause) : (s.takeTarget n cause).pending = s.pending := by
  unfold State.takeTarget State.swapInFire State.startHandover State.cancelHandover State.retarget
  dsimp only
  repeat' split
  all_goals simp

/-! ### The calendar (R61 to R64): a purge touches zone records alone -/

@[simp] theorem State.purgeRequest_now (s : State) (z m : Nat) : (s.purgeRequest z m).now = s.now := by
  unfold State.purgeRequest; split <;> rfl
@[simp] theorem State.purgeRequest_pins (s : State) (z m : Nat) : (s.purgeRequest z m).pins = s.pins := by
  unfold State.purgeRequest; split <;> rfl
@[simp] theorem State.purgeRequest_runMode (s : State) (z m : Nat) : (s.purgeRequest z m).runMode = s.runMode := by
  unfold State.purgeRequest; split <;> rfl
@[simp] theorem State.purgeRequest_settings (s : State) (z m : Nat) : (s.purgeRequest z m).settings = s.settings := by
  unfold State.purgeRequest; split <;> rfl
@[simp] theorem State.purgeRequest_store (s : State) (z m : Nat) : (s.purgeRequest z m).store = s.store := by
  unfold State.purgeRequest; split <;> rfl
@[simp] theorem State.purgeRequest_lines (s : State) (z m : Nat) : (s.purgeRequest z m).lines = s.lines := by
  unfold State.purgeRequest; split <;> rfl
@[simp] theorem State.purgeRequest_doors (s : State) (z m : Nat) : (s.purgeRequest z m).doors = s.doors := by
  unfold State.purgeRequest; split <;> rfl
@[simp] theorem State.purgeRequest_fire (s : State) (z m : Nat) : (s.purgeRequest z m).fire = s.fire := by
  unfold State.purgeRequest; split <;> rfl
@[simp] theorem State.purgeRequest_activity (s : State) (z m : Nat) : (s.purgeRequest z m).activity = s.activity := by
  unfold State.purgeRequest; split <;> rfl
@[simp] theorem State.purgeRequest_channels (s : State) (z m : Nat) : (s.purgeRequest z m).channels = s.channels := by
  unfold State.purgeRequest; split <;> rfl
@[simp] theorem State.purgeRequest_clock (s : State) (z m : Nat) : (s.purgeRequest z m).clock = s.clock := by
  unfold State.purgeRequest; split <;> rfl
@[simp] theorem State.purgeRequest_programme (s : State) (z m : Nat) : (s.purgeRequest z m).programme = s.programme := by
  unfold State.purgeRequest; split <;> rfl
@[simp] theorem State.purgeRequest_queue (s : State) (z m : Nat) : (s.purgeRequest z m).queue = s.queue := by
  unfold State.purgeRequest; split <;> rfl
@[simp] theorem State.purgeRequest_readAt (s : State) (z m : Nat) : (s.purgeRequest z m).readAt = s.readAt := by
  unfold State.purgeRequest; split <;> rfl
@[simp] theorem State.purgeRequest_alloc (s : State) (z m : Nat) : (s.purgeRequest z m).alloc = s.alloc := by
  unfold State.purgeRequest; split <;> rfl
@[simp] theorem State.purgeRequest_outputs (s : State) (z m : Nat) : (s.purgeRequest z m).outputs = s.outputs := by
  unfold State.purgeRequest; split <;> rfl
@[simp] theorem State.purgeRequest_slowOn (s : State) (z m : Nat) : (s.purgeRequest z m).slowOn = s.slowOn := by
  unfold State.purgeRequest; split <;> rfl
@[simp] theorem State.purgeRequest_fastOn (s : State) (z m : Nat) : (s.purgeRequest z m).fastOn = s.fastOn := by
  unfold State.purgeRequest; split <;> rfl
@[simp] theorem State.purgeRequest_authority (s : State) (z m : Nat) : (s.purgeRequest z m).authority = s.authority := by
  unfold State.purgeRequest; split <;> rfl
@[simp] theorem State.purgeRequest_locks (s : State) (z m : Nat) : (s.purgeRequest z m).locks = s.locks := by
  unfold State.purgeRequest; split <;> rfl
@[simp] theorem State.purgeRequest_link (s : State) (z m : Nat) : (s.purgeRequest z m).link = s.link := by
  unfold State.purgeRequest; split <;> rfl
@[simp] theorem State.purgeRequest_snaps (s : State) (z m : Nat) : (s.purgeRequest z m).snaps = s.snaps := by
  unfold State.purgeRequest; split <;> rfl
@[simp] theorem State.purgeRequest_pending (s : State) (z m : Nat) : (s.purgeRequest z m).pending = s.pending := by
  unfold State.purgeRequest; split <;> rfl

/-- What each of a context's purge requests keeps, all of them keep. -/
theorem State.purgeContext_keeps (P : State → Prop) (s : State) (c : Nat)
    (step : ∀ t z m, P t → P (t.purgeRequest z m)) (start : P s) : P (s.purgeContext c) := by
  unfold State.purgeContext
  split
  · exact start
  · next k hk =>
    generalize k.entries = l
    clear hk
    induction l generalizing s with
    | nil => exact start
    | cons e l ih => exact ih _ (step s e.zone k.purgeDur start)

@[simp] theorem State.purgeContext_now (s : State) (c : Nat) : (s.purgeContext c).now = s.now :=
  State.purgeContext_keeps (fun t => t.now = s.now) s c (fun t z m h => by simpa using h) rfl
@[simp] theorem State.purgeContext_pins (s : State) (c : Nat) : (s.purgeContext c).pins = s.pins :=
  State.purgeContext_keeps (fun t => t.pins = s.pins) s c (fun t z m h => by simpa using h) rfl
@[simp] theorem State.purgeContext_runMode (s : State) (c : Nat) : (s.purgeContext c).runMode = s.runMode :=
  State.purgeContext_keeps (fun t => t.runMode = s.runMode) s c (fun t z m h => by simpa using h) rfl
@[simp] theorem State.purgeContext_settings (s : State) (c : Nat) : (s.purgeContext c).settings = s.settings :=
  State.purgeContext_keeps (fun t => t.settings = s.settings) s c (fun t z m h => by simpa using h) rfl
@[simp] theorem State.purgeContext_store (s : State) (c : Nat) : (s.purgeContext c).store = s.store :=
  State.purgeContext_keeps (fun t => t.store = s.store) s c (fun t z m h => by simpa using h) rfl
@[simp] theorem State.purgeContext_lines (s : State) (c : Nat) : (s.purgeContext c).lines = s.lines :=
  State.purgeContext_keeps (fun t => t.lines = s.lines) s c (fun t z m h => by simpa using h) rfl
@[simp] theorem State.purgeContext_doors (s : State) (c : Nat) : (s.purgeContext c).doors = s.doors :=
  State.purgeContext_keeps (fun t => t.doors = s.doors) s c (fun t z m h => by simpa using h) rfl
@[simp] theorem State.purgeContext_fire (s : State) (c : Nat) : (s.purgeContext c).fire = s.fire :=
  State.purgeContext_keeps (fun t => t.fire = s.fire) s c (fun t z m h => by simpa using h) rfl
@[simp] theorem State.purgeContext_activity (s : State) (c : Nat) : (s.purgeContext c).activity = s.activity :=
  State.purgeContext_keeps (fun t => t.activity = s.activity) s c (fun t z m h => by simpa using h) rfl
@[simp] theorem State.purgeContext_channels (s : State) (c : Nat) : (s.purgeContext c).channels = s.channels :=
  State.purgeContext_keeps (fun t => t.channels = s.channels) s c (fun t z m h => by simpa using h) rfl
@[simp] theorem State.purgeContext_clock (s : State) (c : Nat) : (s.purgeContext c).clock = s.clock :=
  State.purgeContext_keeps (fun t => t.clock = s.clock) s c (fun t z m h => by simpa using h) rfl
@[simp] theorem State.purgeContext_programme (s : State) (c : Nat) : (s.purgeContext c).programme = s.programme :=
  State.purgeContext_keeps (fun t => t.programme = s.programme) s c (fun t z m h => by simpa using h) rfl
@[simp] theorem State.purgeContext_queue (s : State) (c : Nat) : (s.purgeContext c).queue = s.queue :=
  State.purgeContext_keeps (fun t => t.queue = s.queue) s c (fun t z m h => by simpa using h) rfl
@[simp] theorem State.purgeContext_readAt (s : State) (c : Nat) : (s.purgeContext c).readAt = s.readAt :=
  State.purgeContext_keeps (fun t => t.readAt = s.readAt) s c (fun t z m h => by simpa using h) rfl
@[simp] theorem State.purgeContext_alloc (s : State) (c : Nat) : (s.purgeContext c).alloc = s.alloc :=
  State.purgeContext_keeps (fun t => t.alloc = s.alloc) s c (fun t z m h => by simpa using h) rfl
@[simp] theorem State.purgeContext_outputs (s : State) (c : Nat) : (s.purgeContext c).outputs = s.outputs :=
  State.purgeContext_keeps (fun t => t.outputs = s.outputs) s c (fun t z m h => by simpa using h) rfl
@[simp] theorem State.purgeContext_slowOn (s : State) (c : Nat) : (s.purgeContext c).slowOn = s.slowOn :=
  State.purgeContext_keeps (fun t => t.slowOn = s.slowOn) s c (fun t z m h => by simpa using h) rfl
@[simp] theorem State.purgeContext_fastOn (s : State) (c : Nat) : (s.purgeContext c).fastOn = s.fastOn :=
  State.purgeContext_keeps (fun t => t.fastOn = s.fastOn) s c (fun t z m h => by simpa using h) rfl
@[simp] theorem State.purgeContext_authority (s : State) (c : Nat) : (s.purgeContext c).authority = s.authority :=
  State.purgeContext_keeps (fun t => t.authority = s.authority) s c (fun t z m h => by simpa using h) rfl
@[simp] theorem State.purgeContext_locks (s : State) (c : Nat) : (s.purgeContext c).locks = s.locks :=
  State.purgeContext_keeps (fun t => t.locks = s.locks) s c (fun t z m h => by simpa using h) rfl
@[simp] theorem State.purgeContext_link (s : State) (c : Nat) : (s.purgeContext c).link = s.link :=
  State.purgeContext_keeps (fun t => t.link = s.link) s c (fun t z m h => by simpa using h) rfl
@[simp] theorem State.purgeContext_snaps (s : State) (c : Nat) : (s.purgeContext c).snaps = s.snaps :=
  State.purgeContext_keeps (fun t => t.snaps = s.snaps) s c (fun t z m h => by simpa using h) rfl
@[simp] theorem State.purgeContext_pending (s : State) (c : Nat) : (s.purgeContext c).pending = s.pending :=
  State.purgeContext_keeps (fun t => t.pending = s.pending) s c (fun t z m h => by simpa using h) rfl

end Sys2Proof.Machine
end

