-- ==== Sys2Proof/Laws/Values.lean ====
section
/-! SUPPORT. The ranges of the values the rules form, said once for each: clamps, readings, setpoints, debt, stages, units,
window lengths and packed parts. -/

namespace Sys2Proof.Machine

/-! ### Clamps and packing (00, 12) -/

theorem clampN_range {lo hi : Nat} (h : lo ≤ hi) (x : Nat) : lo ≤ clampN lo hi x ∧ clampN lo hi x ≤ hi := by
  unfold clampN; omega
theorem clampN_eq {lo hi x : Nat} (h : lo ≤ x) (h' : x ≤ hi) : clampN lo hi x = x := by unfold clampN; omega
theorem clampI_range {lo hi : Int} (h : lo ≤ hi) (x : Int) : lo ≤ clampI lo hi x ∧ clampI lo hi x ≤ hi := by
  unfold clampI; omega
theorem clampI_eq {lo hi x : Int} (h : lo ≤ x) (h' : x ≤ hi) : clampI lo hi x = x := by unfold clampI; omega
@[simp] theorem u8_length (n : Nat) : (u8 n).length = 1 := rfl
@[simp] theorem u16_length (n : Nat) : (u16 n).length = 2 := rfl
@[simp] theorem s16_length (i : Int) : (s16 i).length = 2 := rfl
@[simp] theorem u32_length (n : Nat) : (u32 n).length = 4 := rfl
@[simp] theorem lineSet_length (p : Nat → Bool) : (lineSet p).length = 8 := by simp [lineSet]
@[simp] theorem packPart_length (n : Nat) (l : List (Nat × Nat)) : (packPart n l).length = n := by
  simp [packPart, bytesOf]

/-- A one-byte field is read back. -/
theorem rd8_u8 {n : Nat} (h : n < 256) (rest : List Byte) : rd8 (u8 n ++ rest) 0 = n := by
  simp [rd8, u8, Nat.mod_eq_of_lt h]
/-- A two-byte field is read back. -/
theorem rd16_u16 {n : Nat} (h : n < 65536) (rest : List Byte) : rd16 (u16 n ++ rest) 0 = n := by
  simp [rd16, rd8, u16]; omega

/-! ### Readings (R23, R24) -/

theorem convert_range (c : ChannelConfig) (code : Nat) (h : c.role = .zoneTemp ∨ c.role = .outdoorTemp) :
    -400 ≤ convert c code ∧ convert c code ≤ 600 := by
  unfold convert roleClamp
  rcases h with h | h <;> rw [h] <;> exact clampI_range (by decide) _
theorem pushHistory_length (h : List Int) (v : Int) : (pushHistory h v).length ≤ 4 := by
  unfold pushHistory; split <;> simp <;> omega

/-! ### Lighting (R89 to R97) -/

theorem targetLevel_fire (c : ZoneConfig) (n : Nat) (o : Option Nat) (f t1 : Nat) :
    targetLevel c n o f true t1 = 100 := rfl
theorem targetLevel_floor (c : ZoneConfig) (n : Nat) (o : Option Nat) (f t1 : Nat) (b : Bool) (h : f ≤ 100) :
    f ≤ targetLevel c n o f b t1 := by
  unfold targetLevel; simp only []; split <;> omega
theorem trimmable_le (c : ZoneConfig) (t3 f : Nat) (a b : Bool) : trimmable c t3 f a b ≤ t3 - f := by
  unfold trimmable; split <;> omega
theorem grantedLevel_le (c : ZoneConfig) (t3 u trim g : Nat) : grantedLevel c t3 u trim g ≤ t3 := by
  unfold grantedLevel; (repeat' split) <;> omega
/-- The normal ramp moves toward its goal and never past it. -/
theorem normalRamp_between (rate p g : Nat) : min p g ≤ normalRamp rate p g ∧ normalRamp rate p g ≤ max p g := by
  unfold normalRamp; split <;> omega

/-! ### Heating (R105 to R109) -/

theorem nextDebt_le (cold : Bool) (n decay debt : Nat) (h : debt ≤ 3600) : nextDebt cold n decay debt ≤ 3600 := by
  unfold nextDebt; (repeat' split) <;> omega
theorem debtStageOf_le (step debt : Nat) : debtStageOf step debt ≤ 2 := by
  unfold debtStageOf; (repeat' split) <;> omega
theorem nextStage_le (count band : Nat) (heat : Bool) (sp : Int) (t : Option Int) (k : Nat) (h : k ≤ count) :
    nextStage count band heat sp t k ≤ count := by
  unfold nextStage; repeat' split
  all_goals omega
theorem unitsRequested_le (count k j : Nat) (heat : Bool) (o : Option Nat) (frost fire : Bool) :
    unitsRequested count k j heat o frost fire ≤ count := by
  unfold unitsRequested
  cases o <;> simp only [] <;> repeat' split
  all_goals omega
theorem unitsRequested_fire (count k j : Nat) (heat : Bool) (o : Option Nat) (frost : Bool) :
    unitsRequested count k j heat o frost true = 0 := rfl

/-! ### Ventilation (R121 to R126) -/

theorem nextAir_le (c : SiteConfig) (now count since : Nat) (alarm : Bool) (v : Option Int) (a : Nat) (h : a ≤ count) :
    nextAir c now count since alarm v a ≤ count := by
  unfold nextAir; repeat' split
  all_goals omega
theorem creditedStage_le (d n : Nat) (alarm : Bool) (a : Nat) : creditedStage d n alarm a ≤ a := by
  unfold creditedStage; split <;> omega
theorem stagesRequested_le (count a m : Nat) (fire : Bool) (f : FireFan) : stagesRequested count a m fire f ≤ count := by
  unfold stagesRequested; repeat' split
  all_goals omega

/-! ### The demand window and the rotation (R131, R140) -/

theorem nextBoundary_gt {k m : Nat} (hk : 0 < k) (hm : m < 10080) : m < nextBoundary k m ∧ nextBoundary k m ≤ 10080 := by
  have h1 := Nat.div_add_mod m k
  have h2 := Nat.mod_lt m hk
  have h3 : k * (m / k + 1) = k * (m / k) + k := by rw [Nat.mul_add, Nat.mul_one]
  unfold nextBoundary
  omega
/-- The length of a window opened with the clock VALID is the one R131 tells. -/
theorem alignedLen_eq_openedLen {k minute second : Nat} (hk : 0 < k) (hm : minute < 10080) (hs : second < 60) :
    alignedLen k minute second = openedLen (60 * k) (60 * minute + second) := by
  have next : ∀ m x, x < 60 → 60 * nextBoundary k m = boundaryAfter (60 * k) (60 * m + x) := fun m x hx => by
    have h : (60 * m + x) / (60 * k) = m / k := by
      rw [← Nat.div_div_eq_div_mul, Nat.mul_add_div (by decide), Nat.div_eq_of_lt hx, Nat.add_zero]
    unfold nextBoundary boundaryAfter
    rw [h, Nat.mul_assoc]; omega
  have hb := next minute second hs
  have hle : nextBoundary k minute ≤ 10080 := by unfold nextBoundary; omega
  have hgt0 := nextBoundary_gt hk hm
  simp only [alignedLen, openedLen, ← hb]
  by_cases h : nextBoundary k minute < 10080
  · have h2 := next (nextBoundary k minute) 0 (by decide)
    have hgt : nextBoundary k minute < nextBoundary k (nextBoundary k minute) := by
      have h3 := Nat.lt_mul_div_succ (nextBoundary k minute) hk
      show _ < min 10080 _
      omega
    rw [Nat.mod_eq_of_lt h, ← Nat.add_zero (60 * nextBoundary k minute), ← h2]
    split <;> split <;> first | omega | (split <;> omega)
  · have h2 := next 0 0 (by decide)
    rw [Nat.mul_zero, Nat.add_zero] at h2
    have h4 : nextBoundary k minute = 10080 := by omega
    rw [h4, Nat.mod_self, ← h2]
    split <;> split <;> first | omega | (split <;> omega)
theorem advancePointer_lt (ptr n : Nat) (h : 0 < n) : advancePointer ptr n < n := by
  unfold advancePointer; rw [if_neg (by omega)]; exact Nat.mod_lt _ h

end Sys2Proof.Machine
end

