-- ==== Sys2Proof/Tests/Slice0.lean ====
section
/-! SUPPORT. The model's own tests: the checks of WellFormed refuse an ill-formed term each, frames are read as the manual
writes them, small steps give the manual's worked values, and every statement with hypotheses has a state that meets
them. -/

namespace Sys2Proof.Tests

open Sys2Proof.Machine

/-! The tests compute in the kernel; one at a time, they ask for no more threads than a definition does. -/
set_option Elab.async false

/-! ### Helpers -/

/-- The state a command leaves. -/
def after (o : Host.Outcome State Fault Refusal) : State :=
  match o with
  | .next t => t
  | _ => State.reset

/-- The payload of the first frame formed for a port. -/
def replyOf (s : State) (p : Port) : List Byte := ((s.port p).tx.headD ⟨0, 0, []⟩).payload

/-- The part after reset with the supervisor as holder. -/
def desk : State := { State.reset with authority := { holder := some .supervisor, claim := none } }

/-- A context listing zone 0. -/
def plan (level : Nat) : Context :=
  { cap := 500, ramp := 1, grace := 1, purgeLead := 15, purgeDur := 5, preheatLead := 30,
    entries := [{ zone := 0, occLevel := level, vacLevel := 20, setpoint := 200, setback := 30, heat := true, ventMin := 1 }] }

/-- Settings with zones 0 and 1 enabled and contexts 0 to 2 written. -/
def shedSettings : Settings :=
  { factorySettings with
      zones := { factoryZone with enabled := true } :: { factoryZone with enabled := true } :: List.replicate 14 factoryZone
      contexts := some factoryContext :: some (plan 80) :: some (plan 60) :: List.replicate 13 none }

/-- A window that opened 450 s ago on the elapsed-time base. -/
def window : Window := { base := .elapsed, start := 55000, len := 900, pulses := 0, target := 0, overRaised := false }

/-- A RUNNING part, its clock VALID at minute 360, context 0 CURRENT, the supervisor holding authority. -/
def shift : State :=
  { State.reset with
      now := 100000
      runMode := .running
      settings := shedSettings
      programme := .current 0
      clock := { bootClock 0 with minute := 360, valid := true }
      readAt := 24
      authority := { holder := some .supervisor, claim := none }
      alloc := { bootAlloc with window := some window, nextRound := some 100000, lastPulse := some 100000 } }

/-- The record of a handover from context 0 to context 1, `n` seconds old, both ramp and grace 1 min. -/
def moving (n : Nat) : Handover :=
  { outgoing := 0, incoming := 1, cause := .due, elapsed := n, ramp := 1, grace := 1, target := 6, count := 0,
    startLevels := List.replicate 16 0 }

/-- That handover under way. -/
def underway (n : Nat) : State := { shift with programme := .handover (moving n) }

/-- Line 0 with a record and a configuration, in force. -/
def withLine (s : State) (c : LineConfig) (r : LineRec) : State :=
  let k : Settings := { s.settings with lines := s.settings.lines.set 0 c }
  { s with settings := k, lines := s.lines.set 0 { r with inForce := c, trigger := c.trigger } }

/-- Output 0 with a record and a configuration. -/
def withOutput (s : State) (c : OutputConfig) (r : OutputRec) : State :=
  let k : Settings := { s.settings with outputs := s.settings.outputs.set 0 c }
  { s with settings := k, outputs := s.outputs.set 0 r }

/-- Channel 0 with a record and a configuration. -/
def withChannel (s : State) (c : ChannelConfig) (r : ChannelRec) : State :=
  let k : Settings := { s.settings with channels := s.settings.channels.set 0 c }
  { s with settings := k, channels := s.channels.set 0 r }

/-- A line due to change to ACTIVE now. -/
def dueLine (s : State) (role : LineRole) (trigger : TriggerMode) : State :=
  withLine s { factoryLine with role := role, enable := true, trigger := trigger }
    { blankLine with raw := true, timer := some (s.now - 5) }

/-- The unused channel record of a channel that keeps its configuration. -/
def temperature : ChannelConfig := { factoryChannel with role := .zoneTemp, codeLo := 400, valueLo := -300, codeHi := 3600, valueHi := 500 }

/-! ### WellFormed: each check refuses an ill-formed term -/

theorem test_wf_refuses_long_payload : (Instr.claim .panel (List.replicate 201 0)).wf = false := by decide +kernel
theorem test_wf_takes_longest_payload : (Instr.claim .panel (List.replicate 200 0)).wf = true := by decide +kernel
theorem test_wf_refuses_other_class : (Instr.configWriteZone .panel [2, 0]).wf = false := by decide +kernel
theorem test_wf_takes_own_class : (Instr.configWriteZone .panel [1, 0]).wf = true := by decide +kernel
theorem test_wf_refuses_known_kind : (Instr.unknownKind .panel 0x01 []).wf = false := by decide +kernel
theorem test_wf_takes_unknown_kind : (Instr.unknownKind .panel 0x81 []).wf = true := by decide +kernel
theorem test_wf_refuses_missing_codes : (Instr.channelSample (List.replicate 23 0)).wf = false := by decide +kernel
theorem test_wf_refuses_missing_codes_at_restart : (Instr.restart .panel [] 0 []).wf = false := by decide +kernel

/-! ### Frames (R173, Record formats) -/

/-- The manual's check value of the CRC. -/
theorem test_crc_check_value :
    crc16 [0x31#8, 0x32#8, 0x33#8, 0x34#8, 0x35#8, 0x36#8, 0x37#8, 0x38#8, 0x39#8] = 0x29B1#16 := by decide +kernel

theorem test_decode_claim :
    decodeFrame .panel 1 0 [] (frameBytes 9 0x11 []) = some (.claim .panel []) := by decide +kernel
/-- Behind a length byte above 200 and behind a whole frame the port waits for a start byte again. -/
theorem test_decode_run :
    decodeFrames .panel 1 0 [] ([0, 0xC3, 0, 1, 201] ++ frameBytes 9 0x11 [] ++ [5] ++ frameBytes 9 0x12 [] ++ [0xC3, 1]) =
      [.frameDiscard .panel .length, .claim .panel [], .yield .panel [], .frameByteTimeout .panel] := by decide +kernel
theorem test_decode_table_word_spells_nothing : decodeTableWord 32 5 = none := rfl

/-! ### The manual's worked values -/

/-- Zone 7 of the worked compositions (06): its programme and configuration. -/
def zone7 : ZoneConfig := { factoryZone with enabled := true, dayFactor := 40, rated := 20000 }
/-- Its programme fields. -/
def prog7 : ProgFields := { idleProg zone7 with occLevel := 80, vacLevel := 10 }

/-- A row of the worked compositions: B, c, t1, t3, u, watts(t3), watts(u). -/
def composition (o : Occupancy) (light : Option Int) (doors : Nat) (locked : Option Nat) (fire : Bool) : List Nat :=
  let b := baseLevel o prog7
  let c := dayCredit zone7 1000 light
  let f := floorPart o zone7
  let t3 := targetLevel zone7 doors locked f fire (afterDaylight b c)
  let u := t3 - trimmable zone7 t3 f fire locked.isSome
  [b, c, afterDaylight b c, t3, u, wattsAt 20000 t3, wattsAt 20000 u]

/-- 06, Worked compositions, row by row. -/
theorem test_worked_compositions :
    composition .occupied (some 500) 0 none false = [80, 20, 64, 64, 44, 12800, 8800] ∧
    composition .grace (some 500) 0 none false = [40, 20, 32, 32, 20, 6400, 4000] ∧
    composition .occupied (some 1500) 1 none false = [80, 40, 48, 80, 60, 16000, 12000] ∧
    composition .vacant none 0 none false = [10, 0, 10, 10, 0, 2000, 0] ∧
    composition .occupied (some 500) 0 (some 5) false = [80, 20, 64, 20, 20, 4000, 4000] ∧
    composition .occupied (some 500) 0 none true = [80, 20, 64, 100, 100, 20000, 20000] := by decide +kernel

/-- 06: a zone coming back into use, and a handover ramp with a refused trim. -/
theorem test_worked_levels :
    grantedLevel zone7 64 44 4000 2000 = 54 ∧ grantedLevel zone7 64 44 4000 4000 = 64 ∧
    presentLevel zone7 false none true 20 54 10 = 20 ∧ presentLevel zone7 false none false 20 54 50 = 54 ∧
    [(65, 1), (70, 5), (70, 450), (70, 594), (50, 595), (70, 605), (70, 899)].map
      (fun x => handoverRamp 30 x.1 x.2 900 20) = [30, 30, 50, 56, 43, 56, 69] := by decide +kernel

/-- 07: the door debt at 1070, 1180, 1185 and 1186, its stages, and the temperature stage at 1050 and 1200. -/
theorem test_worked_door_debt :
    let run := fun (n k d : Nat) => (List.range k).foldl (fun x _ => nextDebt true n 2 x) d
    run 2 70 0 = 140 ∧ run 1 110 140 = 250 ∧ run 0 5 250 = 240 ∧ run 0 125 250 = 0 ∧
    [119, 120, 240, 238].map (debtStageOf 120) = [0, 1, 2, 1] ∧
    nextStage 2 10 true 180 (some 170) 0 = 1 ∧ nextStage 2 10 true 180 (some 180) 1 = 0 ∧
    isCold (-150) 180 = true ∧ isCold 140 180 = false ∧ unitsRequested 2 1 2 true none false false = 2 := by
  decide +kernel

/-- 08: the exhaust peak's air stages and alarms. -/
theorem test_worked_exhaust_peak :
    let c := factorySite
    nextAir c 100100 3 0 false (some 30) 0 = 1 ∧ nextAir c 100200 3 100100 false (some 60) 1 = 2 ∧
    nextAlarm 150 false (some 160) = true ∧ nextAir c 100300 3 100200 true (some 160) 2 = 3 ∧
    nextAlarm 150 true (some 135) = true ∧ nextAlarm 150 true (some 130) = false ∧
    nextAir c 117900 3 106000 false (some 80) 3 = 3 ∧ nextAir c 118000 3 106000 false (some 80) 3 = 2 ∧
    creditedStage 3 3 false 2 = 1 ∧ nextAir c 130000 3 118000 false (some 40) 2 = 1 ∧ creditedStage 3 3 false 1 = 0 := by
  decide +kernel

/-- 02: the sensor dropout's conversions and means, truncated toward zero. -/
theorem test_worked_sensor_dropout :
    convert temperature 1480 = -30 ∧ convert temperature 1500 = -25 ∧ convert temperature 1497 = -26 ∧
    pushHistory [-30, -29, -31, -30] (-30) = [-29, -31, -30, -30] ∧ meanOf [-30, -29, -31, -30] = -30 ∧
    meanOf [-25, -26] = -25 ∧ validSample temperature 4095 = false := by decide +kernel

/-- R131: the window lengths the manual works out. -/
theorem test_worked_windows :
    alignedLen 15 487 30 = 450 ∧ alignedLen 15 494 20 = 940 ∧ alignedLen 11 10076 0 = 240 := by decide +kernel

/-- 10: one heater unit through its holds: granted at 1000, withdrawn at 1043, ended at 1120, requested again at 1150 and
cut through by a tier 0 grant at 1196. -/
theorem test_worked_holds :
    let c : OutputConfig := { factoryOutput with function := .heater, minOn := 120, minOff := 180 }
    let idle : OutputRec := { bootOutput with forced := .none }
    let at1000 := (idle.place 99900 c (some 2)).takeGrant 100000 c false
    let at1043 := at1000.place 104300 c none
    let at1120 := at1043.endMinOn 112000 c
    let at1196 := (at1120.place 115000 c (some 2)).place 119600 c (some 0)
    (at1000.drive, at1000.grant, at1000.hold, at1000.lastOn) = (true, .granted, .minOn, some 100000) ∧
    (at1043.drive, at1043.grant, at1043.hold) = (true, .granted, .minOn) ∧
    (at1120.drive, at1120.grant, at1120.hold, at1120.lastOff) = (false, .none, .minOff, some 112000) ∧
    (at1196.drive, at1196.grant, at1196.hold, at1196.lastOn) = (true, .tier0, .minOn, some 119600) := by decide +kernel

/-- A load output of the worked allocation. -/
def loadOf (f : OutputFunction) (r : OutputRef) (watts tier : Nat) : OutputConfig :=
  { factoryOutput with function := f, ref := r, watts := watts, tier := tier }

/-- The switched loads of the worked allocation (09) with their requests: output 5 is held by MIN_ON alone. -/
def workedLoads : List (Nat × OutputConfig × Option Nat) :=
  [(0, loadOf .curtain (.door 4) 18000 1, some 1), (1, loadOf .curtain (.door 5) 18000 1, some 1),
   (5, loadOf .heater (.zone 1 1) 30000 2, none), (8, loadOf .heater (.zone 2 1) 30000 2, some 2),
   (14, loadOf .heater (.zone 4 1) 30000 2, some 2), (20, loadOf .heater (.zone 6 1) 30000 2, some 2),
   (24, loadOf .fan (.zone 3 1) 7500 1, some 0), (25, loadOf .fan (.zone 3 2) 7500 1, some 0),
   (26, loadOf .fan (.zone 5 1) 5500 1, some 1)]

/-- The lighting requests of zones 7, 8 and 9: rated watts, tier 0 part, trim part. -/
def workedLights : List (Nat × Nat × Nat × Nat) := [(7, 20000, 12000, 4000), (8, 16000, 8000, 3200), (9, 25000, 17500, 7500)]

/-- The worked allocation's round (09), 540 s into its window. -/
def workedRound : State :=
  let base := shift.updSettings fun k =>
    { k with
        site := { k.site with ceiling := 500, pulseWeight := 100 }
        zones := (List.range 16).map fun z => { factoryZone with enabled := 1 ≤ z && z ≤ 9, rated := ((workedLights.lookup z).map Prod.fst).getD 0 }
        outputs := (List.range 40).map fun o => ((workedLoads.lookup o).map Prod.fst).getD factoryOutput
        contexts := some { plan 80 with cap := 400 } :: List.replicate 15 none }
  { base with
      outputs := (List.range 40).map fun o =>
        match workedLoads.lookup o with
        | some (_, q) => { bootOutput with forced := .none, request := q, hold := if o = 5 then .minOn else .none, drive := o == 5 }
        | none => { bootOutput with forced := .none }
      zones := (List.range 16).map fun z =>
        let r := bootZone factoryZone 0
        match workedLights.lookup z with
        | some (_, t, m) => { r with light := { r.light with tier0 := t, trim := m } }
        | none => r
      alloc :=
        { bootAlloc with
            window := some { window with start := 46000, pulses := 620 }
            rot2 := 2
            rot3 := 6
            pulses := 11
            wattSeconds := 2400000
            uEst := 150000
            lastPulse := some 100000 } }

/-- 09, The worked allocation: the budget, T0, the tiers, and the partial trim of zone 9. -/
theorem test_worked_allocation :
    let t := after (exec .allocationRound workedRound)
    t.alloc.record =
      { target := 100000, used := 62000, allow := 380000, measured := 396000, cavg := 240000, uEst := 151500,
        budget := 228500, tier0 := 82500, short1 := false, short2 := false, short3 := true, meterLost := false,
        shed := false } ∧
    [7, 8, 9].map (fun z => (t.zone z).light.grantedTrim) = [4000, 3200, 7300] ∧
    [0, 1, 5, 8, 14, 20, 24, 25, 26].map (fun o => (t.out o).drive) = List.replicate 9 true ∧
    grantedLevel { factoryZone with rated := 25000 } 100 70 7500 7300 = 99 := by decide +kernel

/-- 05: the values of HANDOVER_START at the due event and at the retarget by FORCE SHIFT. -/
theorem test_worked_handover_values : startValue 1 .due false = 1 ∧ startValue 1 .force true = 273 := by decide

/-- 04: at 05:30 the look-ahead read of slot 24 appends its entry, the preheat running and the purge waiting; at 05:40
the purge starts. -/
theorem test_worked_morning :
    let s := shift.updSettings fun k =>
      { k with calendar := k.calendar.set 24 (some 2),
               contexts := k.contexts.set 2 (some { plan 60 with purgeLead := 20, purgeDur := 15, preheatLead := 30 }) }
    let t := after (exec .lookAheadRead { s with clock := { s.clock with minute := 330 } })
    let u := after (exec (.purgeLeadReached 24) { t with clock := { t.clock with minute := 340 } })
    t.queue = [⟨24, 2, false, true⟩] ∧ u.queue = [⟨24, 2, true, true⟩] ∧
    (u.zone 0).vent.purgeEnd = some (100000 + 90000) := by decide +kernel

/-- 01: a door held open for 420 s is CLOSED with DOOR_CLOSED_AFTER_HELD of that value. -/
theorem test_worked_door_held_open :
    let s := (withLine desk { factoryLine with role := .door, enable := true } blankLine).updSettings fun k =>
      { k with doors := k.doors.set 20 { line := some 0, zone := 4 } }
    let t := ({ s with now := 142000, doors := s.doors.set 20 ⟨.heldOpen, 100000, 15, 2630⟩ } : State).followDoor 20
    (t.door 20).state = .closed ∧ t.link.pan.events.getLast? = some ⟨.doorClosedAfterHeld, none, 20, 420⟩ := by
  decide +kernel

/-- 01: LINES CLEAR on a LEVEL line that stays ACTIVE: the flag sets again at once, with a fresh LINE_TRIGGER, and shows
in the reply (line 12's byte and bit). -/
theorem test_worked_level_line :
    let s : State := { desk with lines := desk.lines.set 12 ⟨true, true, none, true, { factoryLine with enable := true, trigger := .level }, .level⟩ }
    let t := after (exec (.linesClear .panel [0, 0x10, 0, 0, 0, 0, 0, 0]) s)
    (t.line 12).pending = true ∧ t.link.sup.events.getLast? = some ⟨.lineTrigger, none, 12, 1⟩ ∧
    replyOf t .panel = [0, 0, 0x10, 0, 0, 0, 0, 0, 0] := by decide +kernel

/-- 11: a contested desk: the panel's claim is PENDING and told to the holder, repeated without event, and times out. -/
theorem test_worked_contested_desk :
    let s : State := { shift with now := 20000, link := { shift.link with sup := { shift.link.sup with alive := true } } }
    let a := after (exec (.claim .panel []) s)
    let b := after (exec (.claim .panel []) { a with now := 21500 })
    let c := after (exec .claimTimeout { b with now := 23000 })
    replyOf a .panel = u8 Status.pending.code ∧ a.link.sup.events.getLast? = some ⟨.claimPending, some (360, 0), 2, 30⟩ ∧
    b.link.sup.events = a.link.sup.events ∧ c.authority = ⟨some .panel, none⟩ ∧
    c.link.sup.events.getLast? = some ⟨.authorityChange, some (360, 0), 2, 258⟩ := by decide +kernel

/-! ### Corners of the rules -/

/-- R66: SET CLOCK to a slot's second 0 reads the calendar, finding the EMPTY context of slot 25 in its look-back and in its
refill; the look-ahead read still waiting from the former clock then takes nothing a second time. -/
theorem test_read_of_the_old_clock_is_not_taken :
    let s := shift.updSettings fun k => { k with calendar := k.calendar.set 25 (some 9) }
    let t := after (exec (.setClock .supervisor [1, 0x59, 0]) s)
    t.clock.minute = 345 ∧ (t.link.pan.events.filter fun e => e.kind == .calendarEmptyContext).length = 2 ∧
    after (exec .lookAheadRead t) = t := by decide +kernel

/-- The worked round with a trim of zone 7 above what remains and a 0 W heater in tier 3, its pointer at `ptr`. -/
def spentRound (ptr : Nat) : State :=
  let s := workedRound.updSettings fun k => { k with outputs := k.outputs.set 30 (loadOf .heater (.zone 9 1) 0 3) }
  { s with
      outputs := s.outputs.set 30 { bootOutput with forced := .none, request := some 3 }
      zones := s.zones.modify 7 fun x => { x with light := { x.light with trim := 60000 } }
      alloc := { s.alloc with rot3 := ptr } }

/-- R143: what is visited before the partly granted trim is granted; after it, an entry of 0 W too is refused. -/
theorem test_nothing_is_granted_after_a_partial_trim :
    ((after (exec .allocationRound (spentRound 0))).out 30).grant = .granted ∧
    ((after (exec .allocationRound (spentRound 1))).out 30).grant = .none ∧
    ((after (exec .allocationRound (spentRound 1))).zone 7).light.grantedTrim = 14500 := by decide +kernel

/-- R87, R93: a trim tier and rated watts written while RUNNING are in force from the zone's next evaluation. -/
theorem test_lighting_tuning_waits_for_the_evaluation :
    let c := { factoryZone with enabled := true, trimTier := 1, rated := 500 }
    let w := after (exec (.configWriteZone .supervisor (1 :: 1 :: c.bytes)) shift)
    let e := after (exec .zoneEvaluation w)
    (w.zoneCfg 1).trimTier = 1 ∧ (w.zone 1).light.trimTier = 3 ∧ (w.zone 1).light.rated = factoryZone.rated ∧
    (e.zone 1).light.trimTier = 1 ∧ (e.zone 1).light.rated = 500 := by decide +kernel

/-- R15: a role change that makes an ACTIVE line a FIRE line sets the latch at the next sample. -/
theorem test_active_line_that_becomes_fire :
    let s := withLine desk { factoryLine with enable := true } { blankLine with active := true, raw := true }
    let w := after (exec (.configWriteLine .supervisor (3 :: 0 :: ({ factoryLine with enable := true, role := .fire }).bytes)) s)
    w.fire = false ∧ (after (exec (.lineSample 1) w)).fire = true := by decide +kernel

/-- R1: a trigger mode written is in force from the line's next debounced change; LEVEL acts from the sample. -/
theorem test_trigger_waits_for_the_change :
    let s := withLine shift { factoryLine with enable := true, trigger := .level } { blankLine with active := true, raw := true }
    let w := after (exec (.configWriteLine .supervisor (3 :: 0 :: ({ factoryLine with enable := true, trigger := .toInactive }).bytes)) s)
    let t := after (exec (.lineSample 1) w)
    (t.line 0).inForce.trigger = .toInactive ∧ (t.line 0).trigger = .level ∧ (t.line 0).pending = true := by decide +kernel

/-- R21: a channel whose role becomes NONE keeps its code and nothing else. -/
theorem test_channel_of_no_role_keeps_its_code :
    let s := withChannel desk temperature { blankChannel with code := 700, history := [20], value := 20, quality := .good }
    let t := after (exec (.configWriteChannel .supervisor (4 :: 0 :: factoryChannel.bytes)) s)
    ((t.chan 0).code, (t.chan 0).history, (t.chan 0).value, (t.chan 0).quality) = (700, [], 0, .lost) := by decide +kernel

/-! ### Every statement with hypotheses has a state that meets them -/

theorem reset_sized : State.reset.Sized := by unfold State.Sized Settings.Sized; decide +kernel
theorem desk_sized : desk.Sized := by unfold State.Sized Settings.Sized; decide +kernel
theorem shift_sized : shift.Sized := by unfold State.Sized Settings.Sized; decide +kernel
theorem underway_sized (n : Nat) : (underway n).Sized := shift_sized
theorem shift_settled : shift.settled := nofun
theorem withLine_sized (s : State) (c : LineConfig) (r : LineRec) (h : s.Sized) : (withLine s c r).Sized := by
  simpa [State.Sized, Settings.Sized, withLine] using h
theorem withOutput_sized (s : State) (c : OutputConfig) (r : OutputRec) (h : s.Sized) : (withOutput s c r).Sized := by
  simpa [State.Sized, Settings.Sized, withOutput] using h
theorem withChannel_sized (s : State) (c : ChannelConfig) (r : ChannelRec) (h : s.Sized) : (withChannel s c r).Sized := by
  simpa [State.Sized, Settings.Sized, withChannel] using h
theorem desk_takes : desk.takes .supervisor [] ∧ desk.takes .panel [] := by unfold State.takes; decide +kernel

theorem witness_StepTakesTheFrontCommand :
    ({ desk with pending := [.notice, .lateTest] } : State).pending = .notice :: [.lateTest] := rfl

theorem witness_IdleStepPassesTimeAndQueuesWhatFallsDue :
    shift.pending = [] ∧ shift.clock.phase + 10000 < shift.clock.secondLen ∧
    (∃ s : State, s.pending = [] ∧ s.clock.secondLen = s.clock.phase + 10000) ∧
    (∃ s : State, s.pending = [] ∧ s.programme = .handover (moving 4) ∧ (s.now + 1) % 100 = 0) ∧
    (∃ s : State, s.pending = [] ∧ s.settled ∧ (s.now + 1) % 100 = 0 ∧ s.runMode = .running) ∧
    (∃ s : State, s.pending = [] ∧ s.alloc.nextRound = some (s.now + 1) ∧ s.runMode = .running) ∧
    (∃ s : State, s.pending = [] ∧ s.queue = [⟨671, 1, false, false⟩] ∧ (∀ e ∈ s.queue, e.slot < 672) ∧
      (s.queue.map QueueEntry.slot).Nodup) :=
  ⟨rfl, by decide +kernel, ⟨{ desk with clock := { bootClock 0 with phase := 990000 } }, rfl, rfl⟩,
    ⟨{ underway 4 with now := 99 }, rfl, rfl, rfl⟩, ⟨{ shift with now := 99 }, rfl, nofun, rfl, rfl⟩,
    ⟨{ shift with now := 99999 }, rfl, rfl, rfl⟩,
    ⟨{ shift with queue := [⟨671, 1, false, false⟩] }, rfl, rfl, by decide +kernel, by decide +kernel⟩⟩

theorem witness_RequestFrameIsReadBack :
    (Instr.claim .supervisor []).wf = true ∧ requestParts (.claim .supervisor []) = some (.supervisor, 0x11, []) ∧
    (∀ x ∈ [0#8, 0xC2#8], x ≠ 0xC3#8) ∧ 1 < 256 ∧
    (∀ r c l m, Instr.claim .supervisor [] = .restart r c l m → l = (0 : LineLevels) ∧ m = []) :=
  ⟨by decide +kernel, rfl, by decide +kernel, by decide, nofun⟩

theorem witness_OtherFramesAreSorted :
    200 < (201#8).toNat ∧ (2#8).toNat ≤ 200 ∧ [1#8, 2, 3].length < (2#8).toNat + 2 ∧ ([] : List Byte).length ≤ 200 ∧
    0#8 ++ 0#8 ≠ crc16 [9, 0x11, 0] ∧ (∃ hi lo : Byte, hi ++ lo = crc16 [9, 0x11, 0]) ∧ (9#8).toNat ≠ 1 ∧
    0#8 ≠ 0xC3#8 ∧ [1#8, 2].length < 3 := by
  refine ⟨by decide, by decide, by decide, by decide, by decide +kernel, ?_, by decide, by decide, by decide⟩
  exact ⟨(crc16 [9, 0x11, 0]).extractLsb' 8 8, (crc16 [9, 0x11, 0]).extractLsb' 0 8, by decide +kernel⟩

/-- The desk with the supervisor's port sending. -/
def sendingDesk : State := desk.updPort .supervisor fun r => { r with sending := true, tx := [⟨1, 0x91, []⟩] }

theorem witness_RequestWhileSendingIsDiscarded :
    requestParts (.save .supervisor []) = some (.supervisor, 0x10, []) ∧ (sendingDesk.port .supervisor).sending = true :=
  ⟨rfl, rfl⟩

theorem witness_RequestsAreRefusedByKindClassAndLength :
    desk.takes .panel [] ∧ desk.takes .supervisor [] ∧
    ((Instr.notices .supervisor []).wf = true ∧
      requestParts (.notices .supervisor []) = some (.supervisor, RequestKind.notices.code, []) ∧
      RequestKind.notices ∈ panelKinds) ∧
    ((Instr.start .panel []).wf = true ∧ requestParts (.start .panel []) = some (.panel, RequestKind.start.code, []) ∧
      RequestKind.start ∈ gatedKinds ∧ desk.authority.holder ≠ some .panel) ∧
    ((Instr.start .supervisor [0]).wf = true ∧ desk.takes .supervisor [0] ∧ desk.admits .supervisor .start ∧
      fixedLength .start = some 0 ∧ [0#8].length ≠ 0) := by
  unfold State.takes State.admits; decide +kernel

theorem witness_FramesAndTheBaudSearchActOnThePort :
    desk.link.sup.sending = false ∧ sendingDesk.link.sup.sending = true ∧
    ((shift.port .panel).alive = false ∧ (shift.port .panel).dwellStart + 100 ≤ shift.now) ∧
    (∃ s : State, (s.port .panel).alive = false ∧ s.now + 1 = (s.port .panel).dwellStart + 100) ∧
    (∃ s : State, (s.port .panel).alive = true) :=
  ⟨rfl, rfl, by decide +kernel, ⟨{ desk with now := 99 }, rfl, rfl⟩, ⟨desk.framed .panel, rfl⟩⟩

/-- The desk at 60 s, the supervisor's last frame at the start. -/
def quiet : State := { desk.framed .supervisor with now := 6000, locks := List.replicate 48 (some ⟨.supervisor, 1, 0, 0, false⟩) }

theorem quiet_sized : quiet.Sized := by unfold State.Sized Settings.Sized; decide +kernel

theorem witness_SilenceTakesAuthorityAndLocks :
    quiet.Sized ∧ (quiet.port .supervisor).lastFrame = some 0 ∧ (quiet.port .supervisor).alive = true ∧
    0 + 100 * quiet.site.silenceTime .supervisor ≤ quiet.now ∧
    ({ quiet with now := 5999 } : State).now < 0 + 100 * quiet.site.silenceTime .supervisor :=
  ⟨quiet_sized, rfl, rfl, by decide +kernel, by decide +kernel⟩

/-- The desk with a full event queue at the panel and a notice waiting. -/
def crowded : State := desk.updPort .panel fun r =>
  { r with events := List.replicate 24 ⟨.saveDone, none, 0, 0⟩, tx := [⟨1, 0xE0, []⟩] }

theorem witness_EventsAreQueuedFetchedAndNotified :
    (desk.port .panel).sending = false ∧ (255 < 256 ∧ 65535 < 65536 ∧ (desk.port .panel).events.length < 24) ∧
    24 ≤ (crowded.port .panel).events.length ∧ desk.link.pan.sending = false ∧
    (crowded.link.pan.sending = false ∧ crowded.link.pan.tx ≠ []) ∧
    ((sendingDesk.port .supervisor).sending = true ∧ (sendingDesk.port .supervisor).tx = ⟨1, 0x91, []⟩ :: []) := by
  decide +kernel

theorem witness_IdentAndStatusReportThePart :
    desk.takes .panel [] ∧ desk.takes .panel [0] ∧ [0#8] ≠ [] := by unfold State.takes; decide +kernel

theorem witness_SaveWritesTheCapturedSettings :
    ((desk.port .supervisor).sending = false ∧ desk.authority.holder = some .supervisor) ∧
    ∃ s : State, s.store.saving = some shedSettings :=
  ⟨by decide +kernel, { desk with store := { image := none, saving := some shedSettings, loaded := false } }, rfl⟩

/-- The desk with a snapshot of each count as NEWEST and as the supervisor's HELD. -/
def snapped (newest held : Option Nat) : State :=
  let shot := fun n => { count := n, bytes := List.replicate 552 0 : Snapshot }
  { desk with snaps := { desk.snaps with newest := newest.map shot, heldSup := held.map shot } }

theorem witness_SnapshotGivesPagesOfTheHeldBuffer :
    ∀ n h, (snapped n h).takes .supervisor [0] ∧ (snapped n h).takes .supervisor [] ∧ ([] : List Byte).length ≠ 1 ∧ 3 < (4#8).toNat ∧
    (3#8).toNat ≤ 3 ∧ ((snapped none none).snaps.newest = none ∧ (snapped none none).snaps.held .supervisor = none) ∧
    ((snapped (some 1) (some 1)).snaps.held .supervisor = some ⟨1, List.replicate 552 0⟩ ∧
      ∀ x ∈ (snapped (some 1) (some 1)).snaps.newest, x.count ≤ 1) ∧
    ((snapped (some 2) (some 1)).snaps.newest = some ⟨2, List.replicate 552 0⟩ ∧
      ∀ x ∈ (snapped (some 2) (some 1)).snaps.held .supervisor, x.count < 2) ∧
    (∀ x ∈ (snapped (some 1) none).snaps.held .supervisor, x.count < 1) := by
  intro n h
  refine ⟨⟨rfl, by decide⟩, ⟨rfl, by decide⟩, by decide, by decide, by decide, ⟨rfl, rfl⟩, ⟨rfl, ?_⟩, ⟨rfl, ?_⟩, nofun⟩
  · rintro x ⟨⟩; exact Nat.le_refl 1
  · rintro x ⟨⟩; decide

theorem witness_HeldSnapshotChangesOnlyAtItsOwnPageZero :
    ∃ s t : State, step s = .next t ∧ t.snaps.held .supervisor ≠ s.snaps.held .supervisor :=
  ⟨{ snapped (some 2) (some 1) with pending := [.snapshot .supervisor [0]] }, _, rfl, by decide +kernel⟩

/-- The desk with a claim of the panel pending since the start. -/
def contested : State := { desk with authority := { holder := some .supervisor, claim := some ⟨.panel, 0⟩ } }

theorem witness_ClaimFollowsTheRecord :
    desk.takes .supervisor [] ∧ desk.takes .panel [] ∧ desk.takes .panel [1] ∧ desk.authority.holder = some .supervisor ∧
    State.reset.authority.holder = none ∧ (desk.authority.holder = some (other .panel) ∧ desk.authority.claim = none) ∧
    (contested.authority.holder = some (other .panel) ∧ contested.authority.claim = some ⟨.panel, 0⟩) := by
  unfold State.takes; decide +kernel

theorem witness_YieldAndDeclineAnswerTheClaim :
    contested.takes .supervisor [] ∧ contested.takes .supervisor [0] ∧
    (contested.takes .panel [] ∧ contested.authority.holder ≠ some .panel) ∧
    (desk.authority.holder = some .supervisor ∧ desk.authority.claim = none) ∧
    (contested.authority.holder = some .supervisor ∧ contested.authority.claim = some ⟨.panel, 0⟩) := by
  unfold State.takes; decide +kernel

theorem witness_ClaimsAndLocksRunOut :
    (∃ s : State, s.pending = [] ∧ (s.now + 1) % 100 = 0 ∧ s.authority.claim = some ⟨.panel, 0⟩ ∧
      0 + 100 * s.site.yieldTimeout = s.now + 1) ∧
    (∃ s : State, s.pending = [] ∧ (s.now + 1) % 100 = 0 ∧ s.lock 47 = some ⟨.panel, 1, 1, 0, false⟩ ∧
      0 + 6000 * 1 = s.now + 1) ∧
    desk.authority.claim = none ∧ desk.lock 47 = none :=
  ⟨⟨{ contested with now := 2999 }, rfl, rfl, rfl, rfl⟩,
    ⟨{ desk with now := 5999, locks := List.replicate 47 none ++ [some ⟨.panel, 1, 1, 0, false⟩] }, rfl, rfl, rfl, rfl⟩,
    rfl, rfl⟩

/-- A RUNNING part whose locks are all the supervisor's. -/
def held : State := { shift with locks := List.replicate 48 (some ⟨.supervisor, 1, 0, 0, true⟩) }

theorem witness_OverrideSetPlacesTheLock :
    shift.takes .supervisor [0, 0, 100, 1, 0xE0, 1] ∧ shift.takes .supervisor [] ∧ 15 < (16#8).toNat ∧
    ((0#8).toNat ≤ 15 ∧ (2#8).toNat ≤ 2 ∧ (1#8).toNat ≤ 1) ∧ shift.enabled 15 = false ∧
    (({ shift with runMode := .stopped } : State).enabled 1 = true) ∧
    (shift.enabled 1 = true ∧ shift.runMode = .running ∧ ∀ k, shift.lock 3 = some k → k.owner = .panel) ∧
    (held.enabled 1 = true ∧ held.lock 3 = some ⟨.supervisor, 1, 0, 0, true⟩ ∧ Port.supervisor ≠ .panel) :=
  ⟨⟨rfl, by decide⟩, ⟨rfl, by decide⟩, by decide, by decide, rfl, rfl,
    ⟨rfl, rfl, nofun⟩, ⟨rfl, rfl, by decide⟩⟩

theorem witness_ReleaseAndBreakEmptyTheLock :
    held.takes .supervisor [0, 0] ∧ held.takes .supervisor [] ∧ held.authority.holder = some .supervisor ∧
    held.authority.holder ≠ some .panel ∧ (15 < (16#8).toNat ∧ 2 < (3#8).toNat) ∧ shift.lock 47 = none ∧
    held.lock 47 = some ⟨.supervisor, 1, 0, 0, true⟩ ∧ Port.supervisor ≠ .panel :=
  ⟨⟨rfl, by decide⟩, ⟨rfl, by decide⟩, rfl, by decide +kernel, by decide, rfl, rfl, by decide⟩

theorem witness_ConfigReadReturnsWhatAWriteTakes :
    (desk.port .panel).sending = false ∧ 5 < (6#8).toNat ∧ classItems 5 ≤ (40#8).toNat ∧
    ((15#8).toNat < 16 ∧ (47#8).toNat < 48 ∧ (63#8).toNat < 64 ∧ (23#8).toNat < 24 ∧ (39#8).toNat < 40) ∧
    (factoryLine.zone ≤ 15 ∧ ({ factoryLine with debounce := 255 }).debounce ≤ 255) ∧
    ((∀ l ∈ (some 63 : Option Nat), l ≤ 63) ∧ 15 ≤ 15) ∧
    (temperature.codeHi ≤ 4095 ∧ temperature.clamped = temperature ∧ -32768 ≤ temperature.valueLo) ∧
    ((∀ k ∈ factoryZone.dimming, k ≤ 15) ∧ factoryZone.clamped = factoryZone) ∧
    (factoryOutput.refFits = true ∧ factoryOutput.clamped = factoryOutput) ∧
    (factorySite.refsOk = true ∧ factorySite.clamped = factorySite) := by decide +kernel

/-- A site record read back as it was written. -/
def siteReads (c : SiteConfig) : Bool := SiteConfig.ofBytes c.bytes == some c

theorem witness_ConfigWriteIsRefusedInOrder :
    desk.takes .supervisor [3, 0] ∧ desk.takes .supervisor [3] ∧ desk.authority.holder = some .supervisor ∧
    [3#8].length < 2 ∧ 5 < (6#8).toNat ∧ ([] : List Byte).length ≠ recordLength 5 ∧
    (factoryLine.bytes.length = recordLength 3 ∧ classItems 3 ≤ (64#8).toNat) ∧ shift.runMode = .running ∧
    shift.takes .supervisor (3 :: 0 :: factoryLine.bytes) ∧
    (siteReads { factorySite with fallback := 16 } = true ∧ siteReads { factorySite with lead := 3 } = true ∧
      ({ factorySite with lead := 3 }).clamped.lead ≠ shift.site.lead ∧
      siteReads { factorySite with fallback := 15 } = true ∧ shift.context 15 = none ∧
      factorySite.clamped.lead = shift.site.lead ∧
      siteReads { factorySite with l1 := 50 } = true ∧ shift.context 0 ≠ none ∧ ¬50 < factorySite.clamped.l2) ∧
    (ZoneConfig.ofBytes factoryZone.bytes = some factoryZone ∧ (∀ k ∈ factoryZone.dimming, k ≤ 15) ∧
      factoryZone.enabled ≠ shift.enabled 0 ∧
      ZoneConfig.ofBytes ({ factoryZone with dimming := some 16 }).bytes = some { factoryZone with dimming := some 16 } ∧
      ¬16 ≤ 15) ∧
    ((DoorConfig.ofBytes [63, 15]).zone ≤ 15 ∧ (∀ e < 48, e ≠ 47 → (shift.doorCfg e).line ≠ some 63) ∧
      DoorConfig.ofBytes [63, 15] ≠ shift.doorCfg 47 ∧ ¬(DoorConfig.ofBytes [63, 16]).zone ≤ 15) ∧
    (LineConfig.ofBytes (factoryLine.bytes.set 0 9) = none ∧ 15 < 16 ∧
      LineConfig.ofBytes ({ factoryLine with enable := true }).bytes = some { factoryLine with enable := true } ∧
      true ≠ (shift.lineCfg 63).enable) ∧
    (ChannelConfig.ofBytes temperature.bytes = some temperature ∧ shift.channelRefsOk 23 temperature = true ∧
      { temperature with hold := (shift.chanCfg 23).hold } ≠ shift.chanCfg 23 ∧
      ¬({ temperature with zone := 16 }).zone ≤ 15) ∧
    (OutputConfig.ofBytes (shift.outCfg 39) ({ factoryOutput with function := .fan, ref := .zone 0 1 }).bytes =
        some { factoryOutput with function := .fan, ref := .zone 0 1 } ∧
      (∀ m < 40, m ≠ 39 → (shift.outCfg m).ref ≠ .zone 0 1) ∧ OutputFunction.fan ≠ (shift.outCfg 39).function ∧
      OutputConfig.ofBytes (shift.outCfg 39) ({ factoryOutput with function := .fan, ref := .nothing }).bytes =
        some { factoryOutput with function := .fan, ref := .nothing } ∧ OutputFunction.fan ≠ .spare) :=
  ⟨⟨rfl, by decide⟩, ⟨rfl, by decide⟩, rfl, by decide, by decide, by decide, by decide +kernel, rfl,
    ⟨rfl, by decide +kernel⟩, by decide +kernel, by decide +kernel, by decide +kernel, by decide +kernel, by decide +kernel,
    by decide +kernel⟩

/-- Output 0 the fan of zone 0's stage 1. -/
def fanned (s : State) : State := withOutput s { factoryOutput with function := .fan, ref := .zone 0 1 } { bootOutput with forced := .none }

theorem witness_ZoneAndSiteWritesAreTaken :
    (shift.Sized ∧ (shift.port .supervisor).sending = false ∧ shift.authority.holder = some .supervisor ∧
      (1#8).toNat < 16 ∧ ({ factoryZone with enabled := true, floor := 50 }).bytes.length = 22 ∧
      ZoneConfig.ofBytes ({ factoryZone with enabled := true, floor := 50 }).bytes =
        some { factoryZone with enabled := true, floor := 50 } ∧
      (∀ k ∈ factoryZone.dimming, k ≤ 15) ∧ factoryZone.dimming = none ∧ true = shift.enabled 1 ∧
      factoryZone.dimming = (shift.zoneCfg 1).dimming) ∧
    (desk.Sized ∧ (desk.port .supervisor).sending = false ∧ factorySite.bytes.length = 44 ∧
      SiteConfig.ofBytes factorySite.bytes = some factorySite ∧ factorySite.fallback ≤ 15 ∧
      factorySite.period ∈ [5, 10, 15, 20, 30] ∧ 1 ≤ factorySite.station ∧ factorySite.station ≤ 31 ∧ desk.fire = false) ∧
    (shift.runMode = .running ∧ factorySite.clamped = shift.site ∧ (shift.context factorySite.fallback).isSome = true ∧
      factorySite.l1 < factorySite.l2 ∧ factorySite.l2 < factorySite.l3 ∧ factorySite.l3 < factorySite.la) ∧
    ((fanned shift).Sized ∧ ({ fanned shift with fire := true } : State).fire = true ∧
      siteReads { factorySite with fireFan := .exhaust } = true ∧ FireFan.exhaust ≠ (fanned shift).site.fireFan ∧
      ((fanned shift).outCfg 0).function = .fan ∧ ((fanned shift).outCfg 0).ref = .zone 0 1 ∧
      (fanned shift).enabled 0 = true ∧ 1 ≤ (fanned shift).fanStages 0) :=
  ⟨⟨shift_sized, by decide +kernel⟩, ⟨desk_sized, by decide +kernel⟩, by decide +kernel,
    withOutput_sized _ _ _ shift_sized, by decide +kernel⟩

theorem witness_DoorAndLineWritesAreTaken :
    (desk.Sized ∧ (desk.port .supervisor).sending = false ∧ desk.authority.holder = some .supervisor ∧
      (47#8).toNat < 48 ∧ DoorConfig.ofBytes [63, 15] = { line := some 63, zone := 15 } ∧
      (∀ e < 48, e ≠ 47 → (desk.doorCfg e).line ≠ some 63)) ∧
    ((63#8).toNat < 64 ∧ LineConfig.ofBytes factoryLine.bytes = some factoryLine ∧ factoryLine.bytes.length = 7 ∧
      factoryLine.zone ≤ 15 ∧ desk.runMode = .stopped) ∧
    (shift.runMode = .running ∧ factoryLine.role = (shift.lineCfg 63).role ∧ shift.doorCfg 47 = factoryDoor) :=
  ⟨⟨desk_sized, by decide +kernel⟩, by decide +kernel, by decide +kernel⟩

theorem witness_ChannelAndOutputWritesAreTaken :
    (desk.Sized ∧ (desk.port .supervisor).sending = false ∧ desk.authority.holder = some .supervisor ∧
      (23#8).toNat < 24 ∧ temperature.bytes.length = 12 ∧ ChannelConfig.ofBytes temperature.bytes = some temperature ∧
      desk.channelRefsOk 23 temperature = true ∧ desk.runMode = .stopped) ∧
    (factoryChannel.bytes.length = 12 ∧ ChannelConfig.ofBytes factoryChannel.bytes = some factoryChannel ∧
      factoryChannel.role = .unused ∧
      { factoryChannel with hold := temperature.hold } ≠ temperature ∧ desk.channelRefsOk 23 factoryChannel = true) ∧
    ((39#8).toNat < 40 ∧ factoryOutput.bytes.length = 11 ∧
      OutputConfig.ofBytes (desk.outCfg 39) factoryOutput.bytes = some factoryOutput ∧
      desk.outputRefsOk 39 factoryOutput = true ∧ factoryOutput.function = (desk.outCfg 39).function ∧
      factoryOutput.ref = (desk.outCfg 39).ref) ∧
    (desk.outputRefsOk 39 { factoryOutput with function := .beacon, ref := .door 47 } = true ∧
      OutputFunction.beacon ≠ (desk.outCfg 39).function) ∧
    (OutputConfig.ofBytes factoryOutput [0, 1, 0, 1, 0, 9, 0xFF, 0xFF, 0xFF, 0xFF, 0xFF] =
        some ⟨.heater, .zone 0 1, 9, 2, 120, 180⟩ ∧
      OutputConfig.ofBytes ⟨.heater, .zone 0 1, 9, 3, 60, 70⟩ [0, 1, 0, 1, 0, 9, 0xFF, 0xFF, 0xFF, 0, 5] =
        some ⟨.heater, .zone 0 1, 9, 3, 60, 5⟩) :=
  ⟨⟨desk_sized, by decide +kernel⟩, by decide +kernel, by decide +kernel, by decide +kernel, by decide +kernel⟩

theorem witness_ContextAndCalendarAreReadBack :
    desk.takes .panel [15] ∧ desk.takes .panel [] ∧ 15 < (16#8).toNat ∧ (15#8).toNat ≤ 15 ∧
    desk.takes .panel [2, 0x9F, 96] ∧ 256 * (2#8).toNat + (0x9F#8).toNat = 671 ∧ 671 < 256 * (2#8).toNat + (0xA0#8).toNat ∧
    ((0#8).toNat = 0 ∧ 96 < (97#8).toNat) ∧ (1 ≤ (96#8).toNat ∧ (96#8).toNat ≤ 96) := by
  unfold State.takes; decide +kernel

/-- The payload that writes context 5 with one entry for zone 15. -/
def writing : List Byte := [5, 0, 100, 15, 10, 0, 10, 0, 1] ++ [15, 80, 20, 0, 150, 0, 1, 0]

theorem witness_ContextWriteStoresTheRecord :
    desk.takes .supervisor writing ∧ desk.authority.holder = some .supervisor ∧ desk.takes .supervisor [5] ∧
    (1 ≤ rd8 writing 8 ∧ rd8 writing 8 ≤ 16 ∧ writing.length = 9 + 8 * rd8 writing 8) ∧
    (rd8 writing 0 ≤ 15 ∧ (ZoneEntry.ofBytes (writing.drop 9)).zone = 15 ∧ rd8 writing 15 ≤ 1) ∧
    desk.active 5 = false ∧ poolUsed desk.settings.contexts - contextEntries (desk.context 5) + 1 ≤ 192 ∧
    shift.active 0 = true ∧ 15 < rd8 (writing.set 0 16) 0 ∧
    192 < poolUsed (List.replicate 12 (some { plan 1 with entries := List.replicate 16 ⟨0, 0, 0, 0, 0, true, 0⟩ })) - 0 + 1 := by
  unfold State.takes; decide +kernel

theorem witness_ContextEraseAndCopyFollowTheirTables :
    shift.takes .supervisor [1] ∧ shift.takes .supervisor [1, 2] ∧ shift.authority.holder = some .supervisor ∧
    shift.authority.holder ≠ some .panel ∧ 15 < (16#8).toNat ∧ (shift.active 0 = true ∧ shift.site.fallback = 0) ∧
    (shift.active 2 = false ∧ (∀ e ∈ shift.queue, e.context ≠ 2) ∧ shift.site.fallback ≠ 2) ∧ shift.context 15 = none ∧
    shift.context 1 = some (plan 80) ∧
    poolUsed shift.settings.contexts - contextEntries (shift.context 15) + (plan 80).entries.length ≤ 192 ∧
    192 < poolUsed (List.replicate 12 (some { plan 1 with entries := List.replicate 16 ⟨0, 0, 0, 0, 0, true, 0⟩ })) - 0 + 1 := by
  unfold State.takes; decide +kernel

theorem witness_CalendarWriteStoresTheRunAndCountsTheDeferred :
    shift.takes .supervisor ([2, 0x9F] ++ List.replicate 96 15) ∧ shift.authority.holder = some .supervisor ∧
    98 < ([2, 0x9F] ++ List.replicate 97 (15#8)).length ∧ [0#8, 0].length < 3 ∧
    671 < 256 * (2#8).toNat + (0xA0#8).toNat ∧ (15 < (16#8).toNat ∧ 16#8 ≠ 0xFF#8) ∧
    (256 * (2#8).toNat + (0x9F#8).toNat ≤ 671 ∧ (∀ v ∈ List.replicate 96 (15#8), v.toNat ≤ 15 ∨ v = 0xFF#8) ∧
      shift.settings.Sized ∧ shift.readAt < 672 ∧ ({ shift with readAt := 671 } : State).readAt < 672 ∧ shift.site.lead ≤ 4) := by
  unfold State.takes Settings.Sized; decide +kernel

/-- Settings whose calendar names context 1 in every slot. -/
def fullCalendar : Settings := { shedSettings with calendar := List.replicate 672 (some 1) }

theorem witness_SetClockSetsTheClockAndRereadsTheCalendar :
    ((shift.port .supervisor).sending = false ∧ shift.authority.holder = some .supervisor) ∧
    (10079 < 256 * (0x27#8).toNat + (0x60#8).toNat ∧ 59 < (60#8).toNat) ∧
    (256 * (0x27#8).toNat + (0x5F#8).toNat = 10079 ∧ (59#8).toNat ≤ 59) ∧ desk.runMode = .stopped ∧
    shift.runMode = .running ∧ (∀ k < 672, shift.slotValue k = none) ∧
    (shift.Sized ∧ shift.site.lead ≤ 4) ∧
    (∃ s : State, s.lookedBack 0 1 ∧ (s.context 1).isSome = true ∧ s.programme.inForce = some 1) ∧
    (∃ s : State, s.lookedBack 0 1 ∧ s.context 1 = none) ∧
    (∃ s : State, s.lookedBack 0 1 ∧ s.programme = .current 0 ∧ (s.context 1).isSome = true ∧ s.fire = true) ∧
    (∃ s : State, s.lookedBack 0 1 ∧ s.programme = .handover (moving 4) ∧ (s.context 1).isSome = true ∧
      1 = (moving 4).incoming) ∧
    (∃ s : State, s.lookedBack 0 1 ∧ s.programme = .current 0 ∧ 1 ≠ 0 ∧ s.context 1 = some (plan 80) ∧
      s.fire = false ∧ s.enabledZones ≠ 0) ∧
    (shift.alloc.window = some window ∧ shift.site.windowLen = 60 * 15 ∧ 5 ≤ 15 ∧ 15 ≤ 60) := by
  refine ⟨⟨rfl, rfl⟩, by decide, by decide, rfl, rfl, ?_, ⟨shift_sized, by decide +kernel⟩, ?_,
    ⟨{ desk with settings := { factorySettings with calendar := fullCalendar.calendar } }, ⟨by decide, nofun, rfl⟩, rfl⟩,
    ⟨{ shift with settings := fullCalendar, fire := true }, ⟨by decide, nofun, rfl⟩, rfl, rfl, rfl⟩,
    ⟨{ underway 4 with settings := fullCalendar }, ⟨by decide, nofun, rfl⟩, rfl, rfl, rfl⟩, ?_,
    ⟨rfl, rfl, by decide, by decide⟩⟩
  · intro k _
    show (List.replicate 672 (none : Option Nat)).getD k none = none
    rw [List.getD_eq_getElem?_getD, List.getElem?_replicate]
    split <;> rfl
  · exact ⟨{ shift with settings := fullCalendar, programme := .current 1 }, ⟨by decide, nofun, rfl⟩, rfl, rfl⟩
  · exact ⟨{ shift with settings := fullCalendar }, ⟨by decide, nofun, rfl⟩, rfl, by decide, rfl, rfl, by decide +kernel⟩

/-- A shift with one entry for slot 24, due at minute 360, in its queue. -/
def awaiting (minute : Nat) : State :=
  { shift with queue := [⟨24, 1, false, false⟩], clock := { shift.clock with minute := minute } }

theorem witness_DueEventHandsOnTheHead :
    shift.queue = [] ∧ ((awaiting 300).queue = ⟨24, 1, false, false⟩ :: [] ∧ 0 < (awaiting 300).timeToDue ⟨24, 1, false, false⟩ ∧
      (awaiting 300).timeToDue ⟨24, 1, false, false⟩ = 3600) ∧
    ((awaiting 360).Sized ∧ (awaiting 360).runMode = .running ∧ (awaiting 360).clock.valid = true ∧
      60 * (awaiting 360).clock.minute + (awaiting 360).clock.second = 900 * 24 ∧
      (awaiting 360).context 1 = some (plan 80)) ∧
    ((awaiting 360).programme = .current 0 ∧ 0 ≠ 1 ∧ (awaiting 360).fire = false ∧ (awaiting 360).enabledZones ≠ 0) ∧
    ({ awaiting 360 with programme := .current 1 } : State).programme = .current 1 ∧
    ({ awaiting 360 with fire := true } : State).fire = true ∧
    ({ awaiting 360 with settings := { factorySettings with contexts := shedSettings.contexts } } : State).enabledZones = 0 ∧
    ({ awaiting 360 with programme := .handover (moving 4) } : State).programme = .handover (moving 4) ∧
    (1 = (moving 4).incoming ∧ 0 ≠ (moving 4).incoming ∧ 0 = (moving 4).outgoing ∧ 2 ≠ (moving 4).incoming ∧
      2 ≠ (moving 4).outgoing) :=
  ⟨rfl, by decide +kernel, ⟨shift_sized, by decide +kernel⟩, by decide +kernel, rfl, rfl, by decide +kernel, rfl,
    by decide⟩

theorem witness_LookAheadReadsTheSlotAndLeadsStart :
    (shift.Sized ∧ shift.runMode = .running ∧ shift.clock.valid = true ∧ shift.clock.second = 0 ∧
      shift.clock.minute % 15 = 0 ∧ shift.clock.minute < 10080 ∧
      ({ shift with readAt := 23 } : State).readAt ≠ shift.clock.minute / 15 ∧ 1 ≤ shift.site.lead ∧ shift.site.lead ≤ 4 ∧
      (∀ e ∈ shift.queue.head?, 0 < shift.timeToDue e ∧ shift.timeToDue e ≤ 3600) ∧
      26 = (shift.clock.minute / 15 + shift.site.lead) % 672) ∧
    shift.slotValue 26 = none ∧
    (∃ s : State, s.slotValue 26 = some 1 ∧ s.context 1 = none) ∧
    (∃ s : State, s.slotValue 26 = some 1 ∧ (s.context 1).isSome = true ∧ s.queue = [] ∧ s.programme.inForce = some 1) ∧
    (∃ s : State, s.slotValue 26 = some 1 ∧ s.context 1 = some (plan 80) ∧ s.programme.inForce ≠ some 1 ∧ s.queue = [] ∧
      s.queue.length < s.site.lead) ∧
    (((awaiting 345).queue.find? fun x => x.slot == 24) = some ⟨24, 1, false, false⟩ ∧
      (awaiting 345).context 1 = some (plan 80) ∧ 0 < (plan 80).purgeLead ∧
      (awaiting 345).timeToDue ⟨24, 1, false, false⟩ = 60 * (plan 80).purgeLead) ∧
    0 < (plan 80).preheatLead ∧ 60 * (plan 80).preheatLead < (awaiting 329).timeToDue ⟨24, 1, false, false⟩ ∧
    (awaiting 330).timeToDue ⟨24, 1, false, false⟩ = 60 * (plan 80).preheatLead ∧
    (awaiting 360).timeToDue ⟨24, 1, false, false⟩ = 0 ∧ shift.readAt = shift.clock.minute / 15 := by
  refine ⟨⟨shift_sized, by decide +kernel⟩, by decide +kernel, ?_, ?_, ?_, by decide +kernel, by decide +kernel,
    by decide +kernel, by decide +kernel, by decide +kernel, rfl⟩
  · exact ⟨{ desk with settings := { factorySettings with calendar := List.replicate 672 (some 1) } }, rfl, rfl⟩
  · exact ⟨{ shift with settings := fullCalendar, programme := .current 1 }, rfl, rfl, rfl, rfl⟩
  · exact ⟨{ shift with settings := fullCalendar }, rfl, rfl, by decide +kernel, rfl, by decide +kernel⟩

theorem witness_ForceShiftGivesTheHandoverATarget :
    shift.takes .supervisor [1] ∧ shift.takes .supervisor [] ∧ shift.Sized ∧ shift.authority.holder = some .supervisor ∧
    15 < (16#8).toNat ∧ desk.runMode = .stopped ∧ shift.context 15 = none ∧
    ((1#8).toNat ≤ 15 ∧ shift.runMode = .running ∧ (shift.context 1).isSome = true) ∧
    (shift.programme = .current 0 ∧ 0 ≠ 1 ∧ shift.fire = false ∧ shift.enabledZones ≠ 0) ∧
    ({ shift with settings := { factorySettings with contexts := shedSettings.contexts } } : State).enabledZones = 0 ∧
    ({ shift with fire := true } : State).fire = true ∧
    ((underway 4).programme = .handover (moving 4) ∧ (moving 4).incoming = 1 ∧ (moving 4).outgoing = 0) ∧
    (((underway 4).context 2).isSome = true ∧ 2 ≠ (moving 4).incoming ∧ 2 ≠ (moving 4).outgoing) :=
  ⟨⟨rfl, by decide⟩, ⟨rfl, by decide⟩, shift_sized, rfl, by decide, rfl, rfl, by decide +kernel, by decide +kernel,
    by decide +kernel, rfl, ⟨rfl, rfl, rfl⟩, by decide +kernel⟩

theorem witness_RampEndAndLateTestEndTheHandover :
    shift.settled ∧ ((underway 59).Sized ∧ (underway 59).programme = .handover (moving 59)) ∧
    (moving 59).elapsed < 60 * (moving 59).ramp ∧
    (60 * (moving 60).ramp ≤ (moving 60).elapsed ∧
      (moving 60).count + ((List.range 16).filter fun z => (underway 60).enabled z && !((underway 60).zone z).marks.light).length <
        (moving 60).target) ∧
    (((List.range 16).filter fun z => (underway 60).enabled z && !((underway 60).zone z).marks.light) ≠ [] ∧
      ({ moving 60 with count := 4 }).count +
        ((List.range 16).filter fun z => (underway 60).enabled z && !((underway 60).zone z).marks.light).length =
        ({ moving 60 with count := 4 }).target) ∧
    (moving 119).elapsed < 60 * ((moving 119).ramp + (moving 119).grace) ∧
    60 * ((moving 120).ramp + (moving 120).grace) ≤ (moving 120).elapsed :=
  ⟨shift_settled, ⟨shift_sized, rfl⟩, by decide, by decide +kernel, by decide +kernel, by decide, by decide⟩

/-- A configuration without doors, meters, outputs or channels in use fails no check of START. -/
theorem startCheck_none (s : State) (hd : ∀ d < 48, (s.doorCfg d).line = none)
    (hl : ∀ l < 64, (s.lineCfg l).role = .spare) (h3 : s.site.l1 < s.site.l2 ∧ s.site.l2 < s.site.l3 ∧ s.site.l3 < s.site.la)
    (h4 : ∀ c < 16, ∀ r, s.context c = some r → r.cap ≤ s.site.ceiling) (h5 : s.context s.site.fallback ≠ none)
    (h6 : ∀ o < 40, (s.outCfg o).ref = .nothing) (h7 : ∀ c < 24, (s.chanCfg c).role = .unused) (k i : Nat) :
    ¬s.startCheck k i := by
  unfold State.startCheck
  split
  · rintro ⟨h, l, hl', _⟩; rw [hd _ h] at hl'; exact nomatch hl'
  · rintro ⟨h, hr, _⟩; rw [hl _ h] at hr; exact nomatch hr
  · rintro ⟨_, h⟩; exact h h3
  · rintro ⟨h, r, hr, hc⟩; have := h4 _ h r hr; omega
  · rintro ⟨he, h⟩; exact h5 (he ▸ h)
  · rintro ⟨h, ⟨z, u, hr, _⟩ | ⟨d, hr, _⟩⟩ <;> rw [h6 _ h] at hr <;> exact nomatch hr
  · rintro ⟨h, hr, _⟩; exact hr (h7 _ h)
  · rintro ⟨h, _, hr | hr, _⟩ <;> rw [hl _ h] at hr <;> exact nomatch hr
  · exact id

/-- The factory settings with any site record whose thresholds rise and whose ceiling covers context 0 start. -/
theorem factory_ready (s : State) (h : s.settings = { factorySettings with site := s.site })
    (h3 : s.site.l1 < s.site.l2 ∧ s.site.l2 < s.site.l3 ∧ s.site.l3 < s.site.la) (hf : s.site.fallback = 0)
    (hc : 1000 ≤ s.site.ceiling) (k i : Nat) : ¬s.startCheck k i := by
  have hd : s.settings.doors = List.replicate 48 factoryDoor := by rw [h]; rfl
  have hl : s.settings.lines = List.replicate 64 factoryLine := by rw [h]; rfl
  have ho : s.settings.outputs = List.replicate 40 factoryOutput := by rw [h]; rfl
  have hn : s.settings.channels = List.replicate 24 factoryChannel := by rw [h]; rfl
  have hx : s.settings.contexts = some factoryContext :: List.replicate 15 none := by rw [h]; rfl
  refine startCheck_none s ?_ ?_ h3 ?_ ?_ ?_ ?_ k i
  · unfold State.doorCfg; rw [hd]; decide +kernel
  · unfold State.lineCfg; rw [hl]; decide +kernel
  · intro c hc' r hr
    unfold State.context at hr; rw [hx] at hr
    have all : ∀ c < 16, ∀ r ∈ (some factoryContext :: List.replicate 15 none).getD c none, r.cap ≤ 1000 := by decide +kernel
    exact Nat.le_trans (all c hc' r hr) hc
  · unfold State.context; rw [hx, hf]; exact nofun
  · unfold State.outCfg; rw [ho]; decide +kernel
  · unfold State.chanCfg; rw [hn]; decide +kernel

theorem desk_ready (k i : Nat) : ¬desk.startCheck k i :=
  factory_ready desk rfl (by decide) rfl (by decide) k i

/-- The desk with ventilation thresholds that do not rise. -/
def unready : State := { desk with settings := { factorySettings with site := { factorySite with l1 := 60 } } }

theorem unready_check : unready.startCheck 3 0 ∧
    ∀ k i, unready.startCheck k i → 3 < k ∨ (3 = k ∧ 0 ≤ i) := by
  have door : ∀ d < 48, (unready.doorCfg d).line = none := by decide +kernel
  have line : ∀ l < 64, (unready.lineCfg l).role = .spare := by decide +kernel
  refine ⟨⟨rfl, by decide⟩, fun k i h => ?_⟩
  match k, h with
  | 0, h => exact h.elim
  | 1, ⟨hd, l, hl, _⟩ => rw [door i hd] at hl; exact nomatch hl
  | 2, ⟨hl, hr, _⟩ => rw [line i hl] at hr; exact nomatch hr
  | k + 3, _ => omega

theorem witness_StartReportsTheFirstFailure :
    ((desk.port .supervisor).sending = false ∧ desk.authority.holder = some .supervisor) ∧ shift.runMode = .running ∧
    (unready.runMode = .stopped ∧ unready.startCheck 3 0 ∧
      ∀ k i, unready.startCheck k i → 3 < k ∨ (3 = k ∧ 0 ≤ i)) :=
  ⟨⟨rfl, rfl⟩, rfl, rfl, unready_check⟩

theorem witness_StartEntersRunning :
    (desk.Sized ∧ (desk.port .supervisor).sending = false ∧ desk.authority.holder = some .supervisor ∧
      desk.runMode = .stopped ∧ (∀ k i, ¬desk.startCheck k i) ∧ desk.queue = [] ∧ desk.StoppedLaw ∧ desk.AirLaw) ∧
    (desk.site.lead ≤ 4 ∧ desk.clock.minute < 10080 ∧ desk.clock.second < 60 ∧ desk.site.windowLen = 60 * 15 ∧ 5 ≤ 15 ∧
      15 ≤ 60) ∧
    desk.clock.valid = false ∧
    (∃ s : State, s.clock.valid = true ∧ s.lookedBack 0 1 ∧ (s.context 1).isSome = true) ∧
    (∃ s : State, s.clock.valid = true ∧ ∀ k < 672, s.slotValue k = none) ∧
    (∃ s : State, s.clock.valid = true ∧ s.lookedBack 0 1 ∧ s.context 1 = none) ∧
    shift.enabled 1 = true := by
  refine ⟨⟨desk_sized, rfl, rfl, rfl, desk_ready, rfl, fun _ => by decide +kernel, by decide +kernel, nofun⟩,
    by decide +kernel, rfl,
    ⟨{ shift with settings := fullCalendar }, rfl, ⟨by decide, nofun, rfl⟩, rfl⟩, ⟨{ desk with clock := { bootClock 0 with valid := true } }, rfl, ?_⟩,
    ⟨{ desk with clock := { bootClock 0 with valid := true }, settings := { factorySettings with calendar := [some 1] } },
      rfl, ⟨by decide, nofun, by decide +kernel⟩, rfl⟩, rfl⟩
  intro k _
  show (List.replicate 672 (none : Option Nat)).getD k none = none
  rw [List.getD_eq_getElem?_getD, List.getElem?_replicate]
  split <;> rfl

theorem witness_StopEntersStopped :
    (shift.Sized ∧ (shift.port .supervisor).sending = false ∧ shift.authority.holder = some .supervisor) ∧
    desk.runMode = .stopped ∧ shift.runMode = .running ∧ shift.alloc.window = some window ∧
    (withOutput shift { factoryOutput with function := .heater, ref := .zone 0 1 } bootOutput).isLoad 0 = true ∧
    shift.isLoad 39 = false ∧ (held.lock 47).isSome = true :=
  ⟨⟨shift_sized, rfl, rfl⟩, rfl, rfl, rfl, rfl, rfl, rfl⟩

/-- A part whose stored image starts by itself. -/
def selfStarting : State :=
  let image : Settings := { factorySettings with site := { factorySite with autostart := true } }
  { desk with store := { image := some image, saving := none, loaded := true } }

theorem witness_PowerOnAndRestartLoadTheImage :
    ((desk.store.image.getD factorySettings).Sized ∧ (selfStarting.store.image.getD factorySettings).Sized) ∧
    ((desk.port .supervisor).sending = false ∧ desk.authority.holder = some .supervisor) ∧
    (∃ s : State, s.store.saving ≠ none) ∧ desk.store.saving = none ∧
    ((desk.store.image.getD factorySettings).site.autostart = false ∧ desk.store.image = none) ∧
    (∃ image, selfStarting.store.image = some image ∧ image.site.autostart = true ∧
      ∀ k i, ¬({ selfStarting with settings := image } : State).startCheck k i) ∧
    (∃ c : Nat, c < 24 ∧ (temperature.role ≠ .unused ∧ validSample temperature 16 = true ∧ validSample temperature 15 = false)) := by
  refine ⟨?_, ⟨rfl, rfl⟩, ⟨{ desk with store := { image := none, saving := some shedSettings, loaded := false } }, nofun⟩,
    rfl, ⟨rfl, rfl⟩, ⟨_, rfl, rfl, factory_ready _ rfl (by decide) rfl (by decide)⟩, ⟨0, by decide +kernel⟩⟩
  unfold Settings.Sized; decide +kernel

theorem witness_LinesAreReadAndMasked :
    63 < 64 ∧ desk.takes .panel [] ∧ desk.takes .panel [0] ∧ desk.takes .supervisor (List.replicate 8 0) ∧ desk.Sized ∧
    desk.authority.holder ≠ some .panel ∧ desk.authority.holder = some .supervisor ∧ (List.replicate 8 (0#8)).length = 8 ∧
    ([] : List Byte).length ≠ 8 :=
  ⟨by decide, ⟨rfl, by decide⟩, ⟨rfl, by decide⟩, ⟨rfl, by decide⟩, desk_sized, nofun, rfl, rfl, by decide⟩

theorem witness_LinesClearLeavesLevelLinesPending :
    desk.takes .panel (List.replicate 8 255) ∧ desk.takes .panel [] ∧ desk.Sized ∧ (List.replicate 8 (255#8)).length = 8 :=
  ⟨⟨rfl, by decide⟩, ⟨rfl, by decide⟩, desk_sized, rfl⟩

theorem witness_LineSampleDebouncesEveryLine :
    desk.Sized ∧ 63 < 64 ∧ (desk.lineCfg 63).enable = false ∧
    (∃ s : State, s.Sized ∧ (s.lineCfg 0).enable = true ∧ (s.line 0).active = false ∧ (s.line 0).timer = some (s.now - 5) ∧
      (s.now - 5) + (s.lineCfg 0).debounce = s.now ∧ (s.lineCfg 0).polarity = .activeHigh) :=
  ⟨desk_sized, by decide, rfl, ⟨dueLine shift .spare .level, withLine_sized _ _ _ shift_sized, by decide +kernel⟩⟩

theorem witness_DebouncedChangeReachesItsRole :
    desk.Sized ∧ desk.changeDue 0 = false ∧
    (∀ r ∈ [LineRole.spare, .shed, .occupancy, .purge, .meter, .fire, .door],
      (dueLine shift r .toActive).changeDue 0 = true ∧ (dueLine shift r .toInactive).changeDue 0 = true ∧
      ((dueLine shift r .toActive).line 0).inForce.role = r) ∧
    (dueLine shift .purge .toActive).runMode = .running ∧ (dueLine desk .meter .toActive).runMode = .stopped ∧
    ((dueLine shift .purge .toActive).zone 0).prog.source = .idle ∧
    ({ dueLine shift .fire .toActive with fire := true } : State).fire = true ∧
    (∃ s : State, (s.zone 0).prog.source = .current 1 ∧ s.context 1 = some (plan 80)) :=
  ⟨desk_sized, by decide +kernel, by decide +kernel, rfl, rfl, rfl, rfl,
    ⟨shift.updZone 0 fun r => { r with prog := { r.prog with source := .current 1 } }, rfl, rfl⟩⟩

theorem witness_FireLineSetsFireMode :
    (dueLine shift .fire .level).Sized ∧ ((dueLine shift .fire .level).line 0).inForce.enable = true ∧
    ((dueLine shift .fire .level).line 0).inForce.role = .fire ∧ ((dueLine shift .fire .level).line 0).active = false ∧
    logicalLevel ((dueLine shift .fire .level).line 0).inForce.polarity ((dueLine shift .fire .level).line 0).raw = true ∧
    ((dueLine shift .fire .level).line 0).timer = some 99995 ∧
    99995 + ((dueLine shift .fire .level).line 0).inForce.debounce = (dueLine shift .fire .level).now ∧
    (dueLine shift .fire .level).fire = false ∧ (dueLine shift .fire .level).settled ∧
    (dueLine (underway 4) .fire .level).programme = .handover (moving 4) ∧
    (∃ s : State, s.site.fireFan = .exhaust ∧ s.runMode = .running ∧ s.enabled 0 = true ∧ (s.outCfg 0).function = .fan ∧
      (s.outCfg 0).ref = .zone 0 1 ∧ 1 ≤ s.fanStages 0) :=
  ⟨withLine_sized _ _ _ shift_sized, rfl, rfl, rfl, rfl, rfl, rfl, rfl, nofun, rfl,
    ⟨(fanned shift).updSettings fun k => { k with site := { k.site with fireFan := .exhaust } }, rfl, rfl, rfl, rfl, rfl,
      by decide +kernel⟩⟩

theorem witness_FireResetClearsTheLatch :
    desk.takes .supervisor [] ∧ desk.takes .panel [] ∧ desk.takes .panel [0] ∧ desk.fire = false ∧ desk.Sized ∧
    desk.fireLineActive = false ∧ ({ desk with fire := true } : State).fire = true ∧
    ((fanned shift).runMode = .running ∧ ((fanned shift).outCfg 0).ref = .zone 0 1 ∧ 1 ≤ (fanned shift).fanStages 0) ∧
    (∃ s : State, ∃ l < 64, (s.line l).inForce.enable = true ∧ (s.line l).inForce.role = .fire ∧ (s.line l).active = true) :=
  ⟨⟨rfl, by decide⟩, ⟨rfl, by decide⟩, ⟨rfl, by decide⟩, rfl, desk_sized, by decide +kernel, rfl,
    ⟨rfl, rfl, by decide +kernel⟩, ⟨withLine desk { factoryLine with enable := true, role := .fire } { blankLine with active := true }, 0,
      by decide +kernel⟩⟩

theorem witness_HeldOpenCheckCountsOpenSeconds : desk.Sized := desk_sized

theorem witness_ChannelSampleJudgesEveryChannel :
    (desk.Sized ∧ ∀ c < 24, (desk.chan c).fresh = false) ∧
    (∀ k ∈ [Quality.good, .held, .lost], ∃ s : State, (s.chanCfg 0).role ≠ .unused ∧ (s.chan 0).fresh = false ∧
      (s.chan 0).quality = k ∧ (s.chanCfg 0).codeLo < (s.chanCfg 0).codeHi ∧
      (s.chan 0).invalidSince + 100 * (s.chanCfg 0).hold = s.now) ∧
    (16 ≤ (16#12).toNat ∧ (4079#12).toNat ≤ 4079) ∧ (desk.chanCfg 0).role = .unused ∧
    (∃ s : State, (s.chanCfg 0).role ≠ .unused ∧ (s.chan 0).fresh = true) :=
  ⟨⟨desk_sized, by decide +kernel⟩, fun k _ =>
    ⟨{ withChannel desk temperature { blankChannel with quality := k } with now := 30000 }, nofun, rfl, rfl, (by decide : 400 < 3600),
      (by decide : 0 + 100 * 300 = 30000)⟩,
    by decide, rfl, ⟨withChannel desk temperature { blankChannel with fresh := true }, nofun, rfl⟩⟩

theorem witness_CalibrateReplacesThePoints :
    desk.takes .supervisor [23, 0, 0, 0, 0, 0x0F, 0xFF, 0, 1] ∧ desk.takes .supervisor [] ∧
    desk.authority.holder ≠ some .panel ∧ desk.authority.holder = some .supervisor ∧ 23 < (24#8).toNat ∧
    ((23#8).toNat ≤ 23 ∧ 256 * (0#8).toNat + (0#8).toNat < 256 * (0x0F#8).toNat + (0xFF#8).toNat ∧
      256 * (0x0F#8).toNat + (0xFF#8).toNat = 4095) :=
  ⟨⟨rfl, by decide⟩, ⟨rfl, by decide⟩, nofun, rfl, by decide, by decide⟩

theorem witness_EvaluationMovesOccupancyAndProgramme :
    desk.runMode = .stopped ∧ (shift.Sized ∧ shift.settled ∧ shift.runMode = .running) ∧
    ((shift.zoneCfg 15).enabled = false ∧ (shift.zoneCfg 0).enabled = true) ∧ shift.hasOccupancySource 0 = false ∧
    ((withLine shift { factoryLine with enable := true, role := .occupancy } blankLine).hasOccupancySource 0 = true) ∧
    (shift.programme = .current 0 ∧ (shift.entryFor 0 0).isSome = true ∧ shift.entryFor 0 1 = none) ∧
    (∃ s : State, s.now = (s.zone 0).occ.holdStart + 6000 * (s.zoneCfg 0).occHold) ∧
    ((underway 60).Sized ∧ (underway 60).programme = .handover (moving 60) ∧ ((underway 60).entryFor 1 0).isSome = true ∧
      (underway 60).entryFor 1 1 = none) ∧
    (after (exec .zoneEvaluation (underway 59))).programme = .handover { moving 59 with count := 4 } ∧
    (after (exec .zoneEvaluation (underway 60))).programme = .current 1 ∧ (underway 60).BarrierLaw :=
  ⟨rfl, ⟨shift_sized, shift_settled, rfl⟩, ⟨rfl, rfl⟩, by decide +kernel, by decide +kernel, by decide +kernel,
    ⟨{ desk with now := 90000 }, rfl⟩, ⟨shift_sized, by decide +kernel⟩, by decide +kernel, by decide +kernel,
    by rintro h ⟨⟩; decide +kernel⟩

theorem witness_EvaluationRunsTheControllers :
    shift.Sized ∧ shift.settled ∧ shift.runMode = .running ∧ 1 < 16 ∧ shift.enabled 1 = true ∧
    (∃ t, exec .zoneEvaluation shift = .next t) ∧
    ((after (exec .zoneEvaluation (underway 59))).programme = .handover { moving 59 with count := 4 } ∧
      (moving 59).elapsed < 60 * (moving 59).ramp) ∧
    (after (exec .zoneEvaluation (underway 60))).programme = .current 1 :=
  ⟨shift_sized, shift_settled, rfl, by decide, rfl, ⟨_, rfl⟩, by decide +kernel, by decide +kernel⟩

/-- A shift with an occupancy line for zone 0 and a record of zone 0. -/
def zoned (r : ZoneRec → ZoneRec) : State :=
  (withLine shift { factoryLine with enable := true, role := .occupancy } blankLine).updZone 0 r

theorem witness_ZoneTimersAndPurgeRequests :
    (shift.Sized ∧ shift.runMode = .running ∧ shift.enabled 0 = true) ∧
    ((zoned fun r => { r with occ := { r.occ with state := .occupied } }).hasOccupancySource 0 = true ∧
      (zoned fun r => { r with occ := { r.occ with state := .occupied } }).zoneActive 0 = false ∧
      ((zoned fun r => { r with occ := { r.occ with state := .occupied } }).zone 0).occ.state = .occupied) ∧
    (((zoned fun r => { r with occ := { r.occ with state := .grace } }).zone 0).occ.state = .grace ∧
      (zoned fun r => { r with occ := { r.occ with state := .grace } }).zoneActive 0 = false) ∧
    (∃ s : State, s.zoneAir 0 = some 30 ∧ (s.zone 0).vent.alarm = false) ∧
    ((zoned fun r => { r with vent := { r.vent with purgeEnd := some 100000 } }).zone 0).vent.purgeEnd = some 100000 ∧
    (shift.takes .panel [0] ∧ shift.takes .panel [] ∧ 15 < (16#8).toNat ∧ shift.enabled 15 = false ∧
      (shift.zone 0).prog.source = .idle) ∧
    (∃ s : State, s.enabled 0 = true ∧ s.runMode = .stopped) ∧
    (∃ s : State, (s.zone 0).prog.source = .incoming 1 ∧ s.context 1 = some (plan 80)) :=
  ⟨⟨shift_sized, rfl, rfl⟩, by decide +kernel, by decide +kernel,
    ⟨withChannel shift { temperature with role := .air } { blankChannel with quality := .good, value := 30 }, by decide +kernel⟩,
    rfl, ⟨⟨rfl, by decide⟩, ⟨rfl, by decide⟩, by decide, rfl, rfl⟩, ⟨{ shift with runMode := .stopped }, rfl, rfl⟩,
    ⟨shift.updZone 0 fun r => { r with prog := { r.prog with source := .incoming 1 } }, rfl, rfl⟩⟩

theorem witness_RoundKeepsTheBudgetAndTheTiers :
    desk.runMode = .stopped ∧
    (shift.Sized ∧ shift.runMode = .running ∧ shift.alloc.window = some window) ∧
    (∃ s : State, ∃ a, s.site.meterSilence ≠ 0 ∧ s.alloc.lastPulse = some a ∧ a + 100 * s.site.meterSilence = s.now ∧
      0 < s.alloc.wattSeconds / s.site.period) ∧
    ((workedRound.tierVisits 2 2)[0]? = some (.switched 14) ∧ (workedRound.tierVisits 3 6)[0]? = some (.light 7) ∧
      workedRound.grantedAtZero 5 = true ∧ workedRound.chainOf 26 = some 5 ∧ (workedRound.tierVisits 1 0).length = 3) :=
  ⟨rfl, ⟨shift_sized, rfl, rfl⟩,
    ⟨{ shift with alloc := { shift.alloc with lastPulse := some (100000 - 100 * shift.site.meterSilence), wattSeconds := 10000 } },
      100000 - 100 * shift.site.meterSilence, by decide +kernel⟩, by decide +kernel⟩

theorem witness_MeterEnergyAndWindowEnd :
    (shift.runMode = .running ∧ shift.alloc.meterLost = false) ∧ desk.runMode = .stopped ∧
    (shift.alloc.window = some window ∧ shift.windowTime window < window.len) ∧
    ({ shift with now := 145000 } : State).windowTime window = window.len ∧
    (shift.clock.valid = true ∧ shift.site.windowLen = 60 * 15 ∧ 5 ≤ 15 ∧ shift.clock.second = 0 ∧
      shift.clock.minute % 15 = 0 ∧ shift.clock.minute < 10080) ∧
    ({ shift with clock := bootClock 0 } : State).clock.valid = false := by
  decide +kernel

/-- Output 0 a heater of zone 0 with a record. -/
def heater (r : OutputRec) : State :=
  withOutput shift { factoryOutput with function := .heater, ref := .zone 0 1, minOn := 10, minOff := 10 } r

theorem witness_HoldsTestsAndPatternsEnd :
    ((heater { bootOutput with hold := .minOn, lastOn := some 99000, drive := true }).Sized ∧
      ((heater { bootOutput with hold := .minOn, lastOn := some 99000, drive := true }).out 0).hold = .minOn ∧
      99000 + 100 * 10 = (heater bootOutput).now) ∧
    ((heater { bootOutput with hold := .minOn, lastOn := some 99001 }).out 0).lastOn = some 99001 ∧
    ((heater { bootOutput with hold := .minOff, lastOff := some 99000 }).Sized ∧
      ((heater { bootOutput with hold := .minOff, lastOff := some 99000 }).out 0).hold = .minOff) ∧
    ((heater { bootOutput with testEnd := some 100000 }).Sized ∧
      ((heater { bootOutput with testEnd := some 100000 }).out 0).testEnd = some (heater bootOutput).now) ∧
    (∀ f : OutputFunction, ((withOutput shift { factoryOutput with function := f, ref := .zone 0 0 } bootOutput).outCfg 0).function = f) ∧
    ((withOutput shift { factoryOutput with function := .beacon, ref := .door 47 } bootOutput).outCfg 0).ref = .door 47 ∧
    ((∀ z < 16, shift.enabled z = true → (shift.zoneCfg z).dimming ≠ some 15) ∧
      ∃ s : State, s.enabled 0 = true ∧ (s.zoneCfg 0).dimming = some 15 ∧
        ∀ y < 16, y ≠ 0 → (s.zoneCfg y).dimming ≠ some 15) :=
  ⟨⟨withOutput_sized _ _ _ shift_sized, rfl, rfl⟩, rfl, ⟨withOutput_sized _ _ _ shift_sized, rfl⟩,
    ⟨withOutput_sized _ _ _ shift_sized, rfl⟩, fun _ => rfl, rfl, by decide +kernel,
    ⟨shift.updSettings fun k => { k with zones := k.zones.set 0 { factoryZone with enabled := true, dimming := some 15 } }, rfl, rfl,
      by decide +kernel⟩⟩

theorem witness_OutputsAreSetAndTested :
    desk.takes .supervisor [39, 1] ∧ desk.takes .supervisor [] ∧ desk.Sized ∧ desk.authority.holder = some .supervisor ∧
    39 < (40#8).toNat ∧ ((desk.outCfg 39).function = .spare ∧ (39#8).toNat ≤ 39 ∧ (1#8).toNat ≤ 1) ∧
    ((desk.out 39).testEnd = none ∧ desk.pattern 39 = .none) ∧ (desk.runMode = .stopped ∧ desk.fire = false) ∧
    shift.runMode = .running ∧ ({ desk with fire := true } : State).fire = true :=
  ⟨⟨rfl, by decide⟩, ⟨rfl, by decide⟩, desk_sized, rfl, by decide, ⟨rfl, by decide, by decide⟩, ⟨rfl, rfl⟩, ⟨rfl, rfl⟩,
    rfl, rfl⟩

/-! The laws are met by the part at reset and at work, and a step from there answers a next state. -/

theorem step_of_shift : ∃ t, step { shift with pending := [.allocationRound] } = .next t := ⟨_, rfl⟩
theorem witness_StepsKeepTheSizes : shift.Sized ∧ ∃ t, step shift = .next t := ⟨shift_sized, _, rfl⟩
theorem witness_StepsKeepThePoolLaw : shift.PoolLaw ∧ ∃ t, step shift = .next t := by
  refine ⟨?_, _, rfl⟩
  unfold State.PoolLaw Settings.PoolLaw Context.Ordered; decide +kernel
theorem witness_StepsKeepDebtAndQueuesInBounds :
    shift.DebtLaw ∧ crowded.QueueLaw ∧ shift.ClockLaw ∧ shift.RangeLaw := by
  refine ⟨by unfold State.DebtLaw; decide +kernel, ?_, by unfold State.ClockLaw; decide +kernel,
    by unfold SiteConfig.InRange; decide +kernel, nofun, nofun⟩
  intro p; cases p <;> decide +kernel
theorem witness_StepsKeepTheAuthorityLaws : quiet.Sized ∧ contested.ClaimLaw ∧ quiet.LockLaw := by
  refine ⟨quiet_sized, ?_, ?_⟩
  · rintro c ⟨⟩; rfl
  · intro k h
    have all : ∀ x ∈ quiet.locks, ∀ y ∈ x, (quiet.port y.owner).alive = true := by decide +kernel
    exact all _ h k rfl
theorem witness_StepsKeepTheContextLaws :
    ((underway 4).Sized ∧ (underway 4).ProgrammeLaw ∧ (underway 4).BarrierLaw) ∧ (awaiting 300).LookAheadLaw := by
  refine ⟨⟨shift_sized, ⟨rfl, by decide, rfl, rfl⟩, ?_⟩, ?_, by decide +kernel, by decide +kernel, nofun, fun _ => rfl⟩
  · rintro h ⟨⟩
    decide +kernel
  · intro e h
    obtain rfl : e = ⟨24, 1, false, false⟩ := by simpa [awaiting] using h
    exact ⟨rfl, by decide⟩
/-- A shift whose zone 0 runs its one fan stage for its air. -/
def airing : State :=
  (withOutput shift (loadOf .fan (.zone 0 1) 1000 1)
    { bootOutput with forced := .none, request := some 0, grant := .tier0, drive := true }).updZone 0 fun r =>
      { r with vent := { r.vent with air := 1, credited := 1, stages := 1 } }

/-- A shift whose zones are OCCUPIED at their egress floor. -/
def staffed : State :=
  { shift with zones := (List.range 16).map fun z =>
      let r := bootZone (shift.zoneCfg z) 20
      { r with occ := { r.occ with state := .occupied } } }

theorem witness_StepsKeepTheOutputLaws :
    (desk.StoppedLaw ∧ desk.DriveLaw ∧ ({ desk with fire := true } : State).FireLaw) ∧
    (airing.GrantLaw ∧ airing.isLoad 0 = true ∧ airing.pinOn 0 = true) ∧
    (airing.Sized ∧ airing.AirLaw ∧ airing.runMode = .running ∧ airing.fire = false ∧ airing.enabled 0 = true ∧
      (airing.zone 0).vent.credited = 1) ∧
    (staffed.Sized ∧ staffed.FloorLaw ∧ ∃ t, step staffed = .next t) ∧ ∃ t, step airing = .next t := by
  refine ⟨⟨fun _ => by decide +kernel, by unfold State.DriveLaw; decide +kernel, fun _ => ?_⟩,
    ⟨by unfold State.GrantLaw; decide +kernel, rfl, by decide +kernel⟩, ⟨?_, ⟨by decide +kernel, fun _ _ => ?_⟩, rfl, rfl, rfl, rfl⟩,
    ⟨?_, ⟨by unfold Settings.FloorsInRange; decide +kernel, nofun, nofun, fun _ => ?_⟩, _, rfl⟩, _, rfl⟩
  · unfold State.HeldOff; decide +kernel
  · obtain ⟨h1, h2, h3, h4, -, h5⟩ := withOutput_sized shift (loadOf .fan (.zone 0 1) 1000 1)
      { bootOutput with forced := .none, request := some 0, grant := .tier0, drive := true } shift_sized
    exact ⟨h1, h2, h3, h4, rfl, h5⟩
  · intro z _ _ o ho u hf _ _ _
    have only : ∀ o < 40, (airing.outCfg o).function = .fan → o = 0 := by decide +kernel
    cases only o ho hf
    exact ⟨rfl, nofun⟩
  · obtain ⟨h1, h2, h3, h4, -, h5⟩ := shift_sized
    exact ⟨h1, h2, h3, h4, rfl, h5⟩
  · decide +kernel

end Sys2Proof.Tests
end

section
/-! SUPPORT. The requests of the context store and the calendar (R53, R57 to R59): how a request whose class admits it is
served, what a frame leaves of the values their bodies read, the bytes of the fields, and each body's rows. -/

namespace Sys2Proof.Machine

/-! ### Serving an admitted request (R164, R174) -/

/-- The holder passes the gated class. -/
theorem State.accessRefusal_of_holder {s : State} {p : Port} (h : s.authority.holder = some p) :
    s.accessRefusal p .gated = none := if_pos h

/-- A sender that is not the holder is refused by the gated class. -/
theorem State.accessRefusal_of_not_holder {s : State} {p : Port} (h : s.authority.holder ≠ some p) :
    s.accessRefusal p .gated = some .notHolder := if_neg h

section
variable {s t : State} {i : Instr} {p : Port} {k : RequestKind} {b : List Byte} {n : Nat}
  {body : State → State × Reply}

/-- A request its class refuses changes no state but its port's. -/
theorem exec_refused_by_class {st : Status} (hi : exec i s = .next (s.serve p k b body)) (h : s.takes p b)
    (ha : s.accessRefusal p k.access = some st) : exec i s = .next (s.refused p k st) := by
  rw [hi, s.serve_refused p k b body st h (by rwa [State.framed_accessRefusal])]

/-- An admitted request of another length than its kind's is refused with BAD_LENGTH. -/
theorem exec_badLength (hi : exec i s = .next (s.serve p k b (withLength n b body))) (h : s.takes p b)
    (ha : s.accessRefusal p k.access = none) (hn : b.length ≠ n) : exec i s = .next (s.refused p k .badLength) := by
  rw [hi, s.serve_taken p k b _ h (by rwa [State.framed_accessRefusal]), withLength_eq, if_pos hn]
  rfl

/-- An admitted request of its kind's length is answered as its body decides it. -/
theorem exec_decided (hi : exec i s = .next (s.serve p k b (withLength n b body))) (h : s.takes p b)
    (ha : s.accessRefusal p k.access = none) (hn : b.length = n) :
    exec i s =
      s.replies p k (body (s.framed p)).2.status (body (s.framed p)).2.data (body (s.framed p)).1 := by
  rw [hi, s.serve_taken p k b _ h (by rwa [State.framed_accessRefusal]), withLength_eq, if_neg (not_not_intro hn)]
  rfl

/-- An admitted request that its body refuses changes no state but its port's. -/
theorem exec_refused {st : Status} (hi : exec i s = .next (s.serve p k b (withLength n b body))) (h : s.takes p b)
    (ha : s.accessRefusal p k.access = none) (hn : b.length = n)
    (hb : body (s.framed p) = answer st (s.framed p)) : exec i s = .next (s.refused p k st) := by
  rw [exec_decided hi h ha hn, hb]
  rfl

/-- An admitted request that its body takes is answered OK with the body's data, over what its effects left. -/
theorem exec_taken {data : List Byte} (hi : exec i s = .next (s.serve p k b (withLength n b body))) (h : s.takes p b)
    (ha : s.accessRefusal p k.access = none) (hn : b.length = n) (hb : body (s.framed p) = taken data t) :
    exec i s = s.replies p k .ok data t := by
  rw [exec_decided hi h ha hn, hb]
  rfl

end

/-! ### What a frame leaves alone (R172) -/

section
variable (s : State) (p : Port)

@[simp] theorem State.framed_settings : (s.framed p).settings = s.settings := State.updPort_settings ..
@[simp] theorem State.framed_queue : (s.framed p).queue = s.queue := State.updPort_queue ..
@[simp] theorem State.framed_programme : (s.framed p).programme = s.programme := State.updPort_programme ..
@[simp] theorem State.framed_site : (s.framed p).site = s.site := by simp [State.site]
@[simp] theorem State.framed_context (c : Nat) : (s.framed p).context c = s.context c := by simp [State.context]
@[simp] theorem State.framed_slotValue (k : Nat) : (s.framed p).slotValue k = s.slotValue k := by simp [State.slotValue]
@[simp] theorem State.framed_slotBytes (first n : Nat) : (s.framed p).slotBytes first n = s.slotBytes first n := by
  simp [State.slotBytes]
@[simp] theorem State.framed_active (c : Nat) : (s.framed p).active c = s.active c := by simp [State.active]
@[simp] theorem State.framed_contextState (c : Nat) : (s.framed p).contextState c = s.contextState c := by
  simp [State.contextState]
@[simp] theorem State.framed_queued (c : Nat) : (s.framed p).queued c = s.queued c := by simp [State.queued]
@[simp] theorem State.framed_poolFits (c n : Nat) : (s.framed p).poolFits c n = s.poolFits c n := by
  simp [State.poolFits]
@[simp] theorem State.framed_setContext (c : Nat) (v : Option Context) : (s.framed p).setContext c v =
    { s.framed p with settings := { s.settings with contexts := s.settings.contexts.set c v } } := by
  simp [State.setContext, State.updSettings]

end

theorem State.queued_iff (s : State) (c : Nat) : s.queued c = true ↔ ∃ e ∈ s.queue, e.context = c := by
  simp [State.queued]

theorem State.poolFits_eq_false_iff (s : State) (c n : Nat) :
    s.poolFits c n = false ↔ 192 < poolUsed s.settings.contexts - contextEntries (s.context c) + n :=
  decide_eq_false_iff_not.trans Nat.not_le

/-! ### The bytes of the fields (12, Payloads) -/

/-- A one-byte field holds the byte it was read from. -/
theorem u8_toNat (c : Byte) : u8 c.toNat = [c] := by simp [u8]

/-- A two-byte field holds the bytes it was read from, high byte first. -/
theorem u16_toNat (hi lo : Byte) : u16 (256 * hi.toNat + lo.toNat) = [hi, lo] := by
  have high : (256 * hi.toNat + lo.toNat) / 256 = hi.toNat := by omega
  have low : BitVec.ofNat 8 (256 * hi.toNat + lo.toNat) = lo := by
    apply BitVec.eq_of_toNat_eq
    rw [BitVec.toNat_ofNat]
    omega
  rw [u16, high, low, BitVec.ofNat_toNat, BitVec.setWidth_eq]

/-- A yes/no field is 1 exactly where its fact holds. -/
theorem yesNo_eq_ite {b : Bool} {P : Prop} [Decidable P] (h : b = true ↔ P) : yesNo b = [if P then 1 else 0] := by
  simp only [yesNo, h]

/-- The pool in use is the sum of any count that is 0 on EMPTY and the number of entries on a record. -/
theorem sum_map_eq_poolUsed {f : Option Context → Nat} (hnone : f none = 0)
    (hsome : ∀ r, f (some r) = r.entries.length) (cs : List (Option Context)) : (cs.map f).sum = poolUsed cs := by
  have same : f = contextEntries := by
    funext x
    cases x with
    | none => exact hnone
    | some r => exact hsome r
  rw [same, poolUsed]

/-- The run of a CALENDAR READ is any map that gives a slot its context's number, or FFh for HOLD (R53). -/
theorem State.map_eq_slotBytes (s : State) (first n : Nat) {f : Nat → Byte}
    (h : ∀ i, f i = BitVec.ofNat 8 (noneFF (s.slotValue ((first + i) % 672)))) :
    (List.range n).map f = s.slotBytes first n := by
  rw [funext h]
  exact List.map_eq_flatMap

/-! ### CONTEXT READ (R59) -/

theorem exec_contextRead (s : State) (p : Port) (b : List Byte) :
    exec (.contextRead p b) s =
      .next (s.serve p .contextRead b (withLength 1 b (State.contextReadBody b))) := rfl

theorem State.contextReadBody_of_gt (s : State) {c : Byte} (h : 15 < c.toNat) :
    State.contextReadBody [c] s = answer .badReference s := if_pos h

theorem State.contextReadBody_of_le (s : State) {c : Byte} (h : c.toNat ≤ 15) :
    State.contextReadBody [c] s =
      taken (u8 c.toNat ++ u8 (s.contextState c.toNat).code ++ yesNo (s.queued c.toNat) ++
        yesNo (s.site.fallback = c.toNat) ++ u8 (poolUsed s.settings.contexts) ++ contextBytes (s.context c.toNat)) s :=
  if_neg (Nat.not_lt.mpr h)

/-! ### CALENDAR READ (R53) -/

theorem exec_calendarRead (s : State) (p : Port) (b : List Byte) :
    exec (.calendarRead p b) s =
      .next (s.serve p .calendarRead b (withLength 3 b (State.calendarReadBody b))) := rfl

theorem State.calendarReadBody_of_gt (s : State) {hi lo : Byte} (n : Byte) (h : 671 < 256 * hi.toNat + lo.toNat) :
    State.calendarReadBody [hi, lo, n] s = answer .badReference s := if_pos h

theorem State.calendarReadBody_of_badCount (s : State) {hi lo n : Byte} (h : 256 * hi.toNat + lo.toNat ≤ 671)
    (hn : n.toNat = 0 ∨ 96 < n.toNat) : State.calendarReadBody [hi, lo, n] s = answer .badLength s :=
  (if_neg (Nat.not_lt.mpr h)).trans (if_pos hn)

theorem State.calendarReadBody_of_le (s : State) {hi lo n : Byte} (h : 256 * hi.toNat + lo.toNat ≤ 671)
    (hn : 1 ≤ n.toNat) (hn' : n.toNat ≤ 96) :
    State.calendarReadBody [hi, lo, n] s =
      taken (u16 (256 * hi.toNat + lo.toNat) ++ u8 n.toNat ++ s.slotBytes (256 * hi.toNat + lo.toNat) n.toNat ++
        u8 s.site.lead ++ u8 s.queue.length ++ s.queue.flatMap QueueEntry.bytes) s :=
  have count : ¬(n.toNat = 0 ∨ 96 < n.toNat) := by omega
  (if_neg (Nat.not_lt.mpr h)).trans (if_neg count)

/-! ### CONTEXT ERASE (R57) -/

theorem exec_contextErase (s : State) (p : Port) (b : List Byte) :
    exec (.contextErase p b) s =
      .next (s.serve p .contextErase b (withLength 1 b (State.contextEraseBody b))) := rfl

theorem State.contextEraseBody_of_gt (s : State) {c : Byte} (h : 15 < c.toNat) :
    State.contextEraseBody [c] s = answer .badReference s := if_pos h

/-- The rows of CONTEXT ERASE for a context that exists: in use where it is active, queued or the fallback. -/
theorem State.contextEraseBody_of_le (s : State) {c : Byte} (h : c.toNat ≤ 15) :
    State.contextEraseBody [c] s =
      if s.active c.toNat = true ∨ (∃ e ∈ s.queue, e.context = c.toNat) ∨ s.site.fallback = c.toNat then
        answer .inUse s
      else taken [] (s.setContext c.toNat none) := by
  simp only [← s.queued_iff]
  refine (if_neg (Nat.not_lt.mpr h)).trans ?_
  by_cases active : s.active c.toNat = true
  · exact (if_pos active).trans (if_pos (.inl active)).symm
  refine (if_neg active).trans ?_
  by_cases queued : s.queued c.toNat = true
  · exact (if_pos queued).trans (if_pos (.inr (.inl queued))).symm
  refine (if_neg queued).trans ?_
  by_cases fallback : s.site.fallback = c.toNat
  · exact (if_pos fallback).trans (if_pos (.inr (.inr fallback))).symm
  have free : ¬(s.active c.toNat = true ∨ s.queued c.toNat = true ∨ s.site.fallback = c.toNat) :=
    fun used => used.elim active fun used => used.elim queued fallback
  exact (if_neg fallback).trans (if_neg free).symm

/-! ### CONTEXT COPY (R58) -/

theorem exec_contextCopy (s : State) (p : Port) (b : List Byte) :
    exec (.contextCopy p b) s =
      .next (s.serve p .contextCopy b (withLength 2 b (State.contextCopyBody b))) := rfl

theorem State.contextCopyBody_of_gt (s : State) {src dst : Byte} (h : 15 < src.toNat ∨ 15 < dst.toNat) :
    State.contextCopyBody [src, dst] s = answer .badReference s := if_pos h

theorem State.contextCopyBody_of_empty (s : State) {src dst : Byte} (h : src.toNat ≤ 15) (h' : dst.toNat ≤ 15)
    (hsrc : s.context src.toNat = none) : State.contextCopyBody [src, dst] s = answer .emptyContext s := by
  refine (if_neg (by omega : ¬(15 < src.toNat ∨ 15 < dst.toNat))).trans ?_
  show (match s.context src.toNat with | none => _ | some _ => _) = _
  rw [hsrc]

/-- The rows of CONTEXT COPY past the source's record. -/
theorem State.contextCopyBody_of_record (s : State) {src dst : Byte} {r : Context} (h : src.toNat ≤ 15)
    (h' : dst.toNat ≤ 15) (hsrc : s.context src.toNat = some r) :
    State.contextCopyBody [src, dst] s =
      if s.active dst.toNat = true then answer .inUse s
      else if src.toNat = dst.toNat then taken [] s
      else if s.poolFits dst.toNat r.entries.length = false then answer .poolFull s
      else taken [] (s.setContext dst.toNat (some r)) := by
  refine (if_neg (by omega : ¬(15 < src.toNat ∨ 15 < dst.toNat))).trans ?_
  show (match s.context src.toNat with | none => _ | some _ => _) = _
  rw [hsrc]
  rfl

end Sys2Proof.Machine
end

section
/-! The statements on CONTEXT READ and CALENDAR READ, and on CONTEXT ERASE and CONTEXT COPY. -/

namespace Sys2Proof.Machine

/-- CONTEXT READ of a context that exists (R59), its reply in the model's fields. -/
theorem exec_contextRead_of_le {s : State} {p : Port} {c : Byte} (h : s.takes p [c]) (hc : c.toNat ≤ 15) :
    exec (.contextRead p [c]) s = s.replies p .contextRead .ok
      (u8 c.toNat ++ u8 (s.contextState c.toNat).code ++ yesNo (s.queued c.toNat) ++
        yesNo (s.site.fallback = c.toNat) ++ u8 (poolUsed s.settings.contexts) ++ contextBytes (s.context c.toNat))
      (s.framed p) := by
  simpa using exec_taken (exec_contextRead s p [c]) h rfl rfl (State.contextReadBody_of_le _ hc)

/-- CALENDAR READ of a run (R53), its reply in the model's fields. -/
theorem exec_calendarRead_of_le {s : State} {p : Port} {hi lo n : Byte} (h : s.takes p [hi, lo, n])
    (hf : 256 * hi.toNat + lo.toNat ≤ 671) (hn : 1 ≤ n.toNat) (hn' : n.toNat ≤ 96) :
    exec (.calendarRead p [hi, lo, n]) s = s.replies p .calendarRead .ok
      (u16 (256 * hi.toNat + lo.toNat) ++ u8 n.toNat ++ s.slotBytes (256 * hi.toNat + lo.toNat) n.toNat ++
        u8 s.site.lead ++ u8 s.queue.length ++ s.queue.flatMap QueueEntry.bytes)
      (s.framed p) := by
  simpa using exec_taken (exec_calendarRead s p _) h rfl rfl (State.calendarReadBody_of_le _ hf hn hn')

/-- Settles O25: each refusal is a row of its body, and each reply the model's fields written out byte by byte. -/
theorem contextAndCalendarAreReadBack : Obligations.ContextAndCalendarAreReadBack := by
  intro s p b h
  refine ⟨exec_badLength (exec_contextRead s p b) h rfl, ?_, ?_, exec_badLength (exec_calendarRead s p b) h rfl, ?_⟩
  · rintro c rfl hc
    exact exec_refused (exec_contextRead s p _) h rfl rfl (State.contextReadBody_of_gt _ hc)
  · rintro c rfl hc
    rw [exec_contextRead_of_le h hc, u8_toNat, yesNo_eq_ite (s.queued_iff _), yesNo_eq_ite decide_eq_true_iff,
      sum_map_eq_poolUsed rfl fun _ => rfl]
    cases s.context c.toNat <;> rfl
  · rintro hi lo n rfl first
    refine ⟨fun hf => ?_, fun hf hn => ?_, fun hf hn hn' => ?_⟩
    · exact exec_refused (exec_calendarRead s p _) h rfl rfl (State.calendarReadBody_of_gt _ n hf)
    · exact exec_refused (exec_calendarRead s p _) h rfl rfl (State.calendarReadBody_of_badCount _ hf hn)
    · rw [exec_calendarRead_of_le h hf hn hn', u16_toNat, u8_toNat, s.map_eq_slotBytes first n.toNat,
        List.append_assoc _ (u8 s.site.lead)]
      · rfl
      · intro i
        cases s.slotValue ((first + i) % 672) <;> rfl

/-- CONTEXT ERASE from the holder of a context that exists (R57). -/
theorem exec_contextErase_of_le {s : State} {p : Port} {c : Byte} (h : s.takes p [c])
    (hp : s.authority.holder = some p) (hc : c.toNat ≤ 15) :
    exec (.contextErase p [c]) s =
      if s.active c.toNat = true ∨ (∃ e ∈ s.queue, e.context = c.toNat) ∨ s.site.fallback = c.toNat then
        .next (s.refused p .contextErase .inUse)
      else s.replies p .contextErase .ok []
        { s.framed p with settings := { s.settings with contexts := s.settings.contexts.set c.toNat none } } := by
  rw [exec_decided (exec_contextErase s p [c]) h (State.accessRefusal_of_holder hp) rfl,
    State.contextEraseBody_of_le _ hc]
  simp only [State.framed_active, State.framed_queue, State.framed_site, State.framed_setContext]
  split <;> rfl

/-- CONTEXT COPY from the holder of a context that holds a record (R58). -/
theorem exec_contextCopy_of_record {s : State} {p : Port} {src dst : Byte} {r : Context} (h : s.takes p [src, dst])
    (hp : s.authority.holder = some p) (hs : src.toNat ≤ 15) (hd : dst.toNat ≤ 15)
    (hr : s.context src.toNat = some r) :
    exec (.contextCopy p [src, dst]) s =
      if s.active dst.toNat = true then .next (s.refused p .contextCopy .inUse)
      else if src = dst then s.replies p .contextCopy .ok [] (s.framed p)
      else if 192 < poolUsed s.settings.contexts - contextEntries (s.context dst.toNat) + r.entries.length then
        .next (s.refused p .contextCopy .poolFull)
      else s.replies p .contextCopy .ok []
        { s.framed p with settings := { s.settings with contexts := s.settings.contexts.set dst.toNat (some r) } } := by
  rw [exec_decided (exec_contextCopy s p [src, dst]) h (State.accessRefusal_of_holder hp) rfl,
    State.contextCopyBody_of_record _ hs hd (by rwa [State.framed_context])]
  simp only [State.framed_active, State.framed_poolFits, State.framed_setContext, State.poolFits_eq_false_iff,
    BitVec.toNat_inj]
  repeat' split
  all_goals rfl

/-- Settles O27: any sender but the holder is refused by the class, and the holder's commands go through their bodies'
rows in the order of R57 and R58. -/
theorem contextEraseAndCopyFollowTheirTables : Obligations.ContextEraseAndCopyFollowTheirTables := by
  intro s p b h
  refine ⟨fun hp => ⟨?_, ?_⟩, fun hp => ⟨?_, ?_⟩⟩
  · exact exec_refused_by_class (exec_contextErase s p b) h (State.accessRefusal_of_not_holder hp)
  · exact exec_refused_by_class (exec_contextCopy s p b) h (State.accessRefusal_of_not_holder hp)
  · rintro c rfl
    have admitted : s.accessRefusal p .gated = none := State.accessRefusal_of_holder hp
    refine ⟨fun hc => ?_, fun hc inUse => ?_, fun hc idle unqueued unnamed => ?_⟩
    · exact exec_refused (exec_contextErase s p [c]) h admitted rfl (State.contextEraseBody_of_gt _ hc)
    · rw [exec_contextErase_of_le h hp hc, if_pos inUse]
    · rw [exec_contextErase_of_le h hp hc, if_neg (by simpa [idle, unnamed] using unqueued)]
  · rintro src dst rfl
    have admitted : s.accessRefusal p .gated = none := State.accessRefusal_of_holder hp
    refine ⟨fun hx => ?_, fun hs hd hr => ?_, fun r hs hd hr => ?_⟩
    · exact exec_refused (exec_contextCopy s p [src, dst]) h admitted rfl (State.contextCopyBody_of_gt _ hx)
    · exact exec_refused (exec_contextCopy s p [src, dst]) h admitted rfl
        (State.contextCopyBody_of_empty _ hs hd (by rwa [State.framed_context]))
    · rw [exec_contextCopy_of_record h hp hs hd hr]
      refine ⟨fun active => if_pos active, fun idle same => ?_, fun idle other full => ?_, fun idle other room => ?_⟩
      · rw [if_neg (by simp [idle]), if_pos same]
      · rw [if_neg (by simp [idle]), if_neg other, if_pos full]
      · rw [if_neg (by simp [idle]), if_neg other, if_neg (Nat.not_lt.mpr room)]

end Sys2Proof.Machine
end

section
/-! SUPPORT. The requests of the Authority Unit (R160, R161, R166, R167): what a frame leaves of the values their bodies
read, and each body's rows. -/

namespace Sys2Proof.Machine

/-- An admitted request is answered with the status and data its body gives, over what the body's effects left. -/
theorem exec_replies {s t : State} {i : Instr} {p : Port} {k : RequestKind} {b : List Byte} {n : Nat}
    {body : State → State × Reply} {st : Status} {data : List Byte}
    (hi : exec i s = .next (s.serve p k b (withLength n b body))) (h : s.takes p b)
    (ha : s.accessRefusal p k.access = none) (hn : b.length = n)
    (hb : body (s.framed p) = (t, { status := st, data := data })) : exec i s = s.replies p k st data t := by
  rw [exec_decided hi h ha hn, hb]

/-! ### What a frame leaves alone (R172) -/

section
variable (s : State) (p : Port)

@[simp] theorem State.framed_now : (s.framed p).now = s.now := State.updPort_now ..
@[simp] theorem State.framed_runMode : (s.framed p).runMode = s.runMode := State.updPort_runMode ..
@[simp] theorem State.framed_authority : (s.framed p).authority = s.authority := State.updPort_authority ..
@[simp] theorem State.framed_locks : (s.framed p).locks = s.locks := State.updPort_locks ..
@[simp] theorem State.framed_lock (i : Nat) : (s.framed p).lock i = s.lock i := by simp [State.lock]
@[simp] theorem State.framed_enabled (z : Nat) : (s.framed p).enabled z = s.enabled z := by
  simp [State.enabled, State.zoneCfg]
@[simp] theorem State.framed_setLock (i : Nat) (v : Option Lock) :
    (s.framed p).setLock i v = { s.framed p with locks := s.locks.set i v } := by simp [State.setLock]

end

/-! ### The authority record's changes (R160 to R163) -/

theorem other_ne (p : Port) : other p ≠ p := by cases p <;> decide

/-- One event queued to both ports is the list of that event alone (R176). -/
theorem State.raise_eq_raises (s : State) (k : EventKind) (a b : Nat) : s.raise k a b = s.raises [(k, a, b)] := rfl

/-- A change of holder after a frame of port `p` (R163). -/
theorem State.framed_setHolder (s : State) (p : Port) (new : Option Port) (reason : Nat) :
    (s.framed p).setHolder new reason =
      ({ s.framed p with authority := { holder := new, claim := none } } : State).raises
        [(.authorityChange, partyCode new, reason + 256 * partyCode s.authority.holder)] := by
  rw [State.setHolder, State.framed_authority, State.raise_eq_raises]

/-- A claim cleared after a frame of its holder's port `p` leaves `p` the holder (R161). -/
theorem State.framed_clearClaim {s : State} {p : Port} (h : s.authority.holder = some p) :
    (s.framed p).clearClaim = { s.framed p with authority := { holder := some p, claim := none } } := by
  simp [State.clearClaim, h]

/-! ### CLAIM (R160) -/

theorem exec_claim (s : State) (p : Port) (b : List Byte) :
    exec (.claim p b) s = .next (s.serve p .claim b (withLength 0 b (State.claimBody p))) := rfl

theorem State.claimBody_of_holder {s : State} {p : Port} (h : s.authority.holder = some p) :
    State.claimBody p s = answer .held s := by simp [State.claimBody, h]

theorem State.claimBody_of_unheld {s : State} {p : Port} (h : s.authority.holder = none) :
    State.claimBody p s = taken [] (s.setHolder (some p) 0) := by simp [State.claimBody, h]

/-- The first claim against the other holder is stamped now and told to that holder. -/
theorem State.framed_claimBody_of_unclaimed {s : State} {p : Port} (h : s.authority.holder = some (other p))
    (hc : s.authority.claim = none) :
    State.claimBody p (s.framed p) =
      answer .pending
        (({ s.framed p with authority := { s.authority with claim := some { claimant := p, stamp := s.now } } } :
          State).raiseTo (other p) .claimPending (partyCode (some p)) s.site.yieldTimeout) := by
  simp [State.claimBody, h, hc, other_ne p]

theorem State.claimBody_of_claim {s : State} {p : Port} {c : Claim} (h : s.authority.holder = some (other p))
    (hc : s.authority.claim = some c) : State.claimBody p s = answer .pending s := by
  simp [State.claimBody, h, hc, other_ne p]

/-! ### YIELD and DECLINE (R161) -/

/-- What YIELD does to the claim it answers: the claimant becomes holder, reason YIELD. -/
def Claim.yieldTo (c : Claim) (s : State) : State := s.setHolder (some c.claimant) 1

/-- What the holder `p`'s DECLINE does to the claim it answers: it is cleared and its claimant told. -/
def Claim.declineBy (p : Port) (c : Claim) (s : State) : State :=
  s.clearClaim.raiseTo c.claimant .claimDeclined (partyCode (some p)) 0

theorem exec_yield (s : State) (p : Port) (b : List Byte) :
    exec (.yield p b) s =
      .next (s.serve p .yield b (withLength 0 b (State.answerClaim p Claim.yieldTo))) := rfl

theorem exec_decline (s : State) (p : Port) (b : List Byte) :
    exec (.decline p b) s =
      .next (s.serve p .decline b (withLength 0 b (State.answerClaim p (Claim.declineBy p)))) := rfl

section
variable {s : State} {p : Port} (act : Claim → State → State)

theorem State.answerClaim_of_not_holder (h : s.authority.holder ≠ some p) :
    State.answerClaim p act s = answer .notHolder s := if_pos h

theorem State.answerClaim_of_unclaimed (h : s.authority.holder = some p) (hc : s.authority.claim = none) :
    State.answerClaim p act s = answer .noClaim s := by simp [State.answerClaim, h, hc]

theorem State.answerClaim_of_claim {c : Claim} (h : s.authority.holder = some p) (hc : s.authority.claim = some c) :
    State.answerClaim p act s = taken [] (act c s) := by simp [State.answerClaim, h, hc]

end

/-! ### OVERRIDE SET (R166) -/

theorem exec_overrideSet (s : State) (p : Port) (b : List Byte) :
    exec (.overrideSet p b) s =
      .next (s.serve p .overrideSet b (withLength 6 b (State.overrideSetBody p b))) := rfl

/-- A yes/no field in its codes is sent back as the byte it was read from (R174). -/
theorem yesNo_toNat {c : Byte} (h : c.toNat ≤ 1) : yesNo (c.toNat = 1) = [c] := by
  rcases Nat.le_one_iff_eq_zero_or_eq_one.mp h with zero | one
  · obtain rfl : c = 0 := BitVec.eq_of_toNat_eq zero
    rfl
  · obtain rfl : c = 1 := BitVec.eq_of_toNat_eq one
    rfl

/-- The lock an OVERRIDE SET of these bytes places, and its reply, whose bytes are those of the lock (R166). -/
theorem State.placeLock_eq (s : State) (p : Port) (i f value expiry : Nat) {flag : Byte} (h : flag.toNat ≤ 1) :
    s.placeLock p i f value expiry flag.toNat =
      (s.setLock i (some (s.newLock p f value expiry flag.toNat)),
        { status := if lockMax f < value ∨ 480 < expiry then .clamped else .ok,
          data := [BitVec.ofNat 8 (partyCode (some p)), BitVec.ofNat 8 (min (lockMax f) value)] ++
            u16 (min 480 expiry) ++ [flag] }) := by
  rw [← yesNo_toNat h]
  rfl

theorem State.framed_newLock (s : State) (p q : Port) (f value expiry flag : Nat) :
    (s.framed p).newLock q f value expiry flag = s.newLock q f value expiry flag := by simp [State.newLock]

section
variable {s : State} {p : Port} {z f v eh el flag : Byte}

theorem State.overrideSetBody_of_bad (h : 15 < z.toNat ∨ 2 < f.toNat ∨ 1 < flag.toNat) :
    State.overrideSetBody p [z, f, v, eh, el, flag] s = answer .badReference s := if_pos h

theorem State.overrideSetBody_of_disabled (hr : ¬(15 < z.toNat ∨ 2 < f.toNat ∨ 1 < flag.toNat))
    (he : s.enabled z.toNat = false) :
    State.overrideSetBody p [z, f, v, eh, el, flag] s = answer .badReference s := (if_neg hr).trans (if_pos he)

theorem State.overrideSetBody_of_stopped (hr : ¬(15 < z.toNat ∨ 2 < f.toNat ∨ 1 < flag.toNat))
    (he : s.enabled z.toNat = true) (hm : s.runMode = .stopped) :
    State.overrideSetBody p [z, f, v, eh, el, flag] s = answer .notRunning s :=
  (if_neg hr).trans ((if_neg (Bool.not_eq_false _ |>.mpr he)).trans (if_pos (by simp [State.running, hm])))

/-- A lock of the other party stands against the request. -/
theorem State.overrideSetBody_of_locked (hr : ¬(15 < z.toNat ∨ 2 < f.toNat ∨ 1 < flag.toNat))
    (he : s.enabled z.toNat = true) (hm : s.runMode = .running) {k : Lock}
    (hk : s.lock (3 * z.toNat + f.toNat) = some k) (ho : k.owner ≠ p) :
    State.overrideSetBody p [z, f, v, eh, el, flag] s = lockedBy k.owner s := by
  simp [State.overrideSetBody, rd8, State.running, he, hm, hk, ho, hr]

/-- An EMPTY lock is placed, and the sender's own replaced. -/
theorem State.overrideSetBody_of_free (hr : ¬(15 < z.toNat ∨ 2 < f.toNat ∨ 1 < flag.toNat))
    (he : s.enabled z.toNat = true) (hm : s.runMode = .running)
    (hk : ∀ k, s.lock (3 * z.toNat + f.toNat) = some k → k.owner = p) :
    State.overrideSetBody p [z, f, v, eh, el, flag] s =
      s.placeLock p (3 * z.toNat + f.toNat) f.toNat v.toNat (256 * eh.toNat + el.toNat) flag.toNat := by
  cases hl : s.lock (3 * z.toNat + f.toNat) with
  | none => simp [State.overrideSetBody, rd8, rd16, State.running, he, hm, hl, hr]
  | some k => simp [State.overrideSetBody, rd8, rd16, State.running, he, hm, hl, hr, hk k hl]

end

/-! ### OVERRIDE RELEASE and OVERRIDE BREAK (R167) -/

/-- What OVERRIDE BREAK does to a lock: it is emptied whatever its owner, reason BREAK. -/
def State.breakLock (i : Nat) (s : State) : State × Reply := taken [] (s.releaseLock i 5)

theorem exec_overrideRelease (s : State) (p : Port) (b : List Byte) :
    exec (.overrideRelease p b) s =
      .next (s.serve p .overrideRelease b (withLength 2 b (onLock b (State.releaseByOwner p)))) := rfl

theorem exec_overrideBreak (s : State) (p : Port) (b : List Byte) :
    exec (.overrideBreak p b) s =
      .next (s.serve p .overrideBreak b (withLength 2 b (onLock b State.breakLock))) := rfl

theorem onLock_of_bad {z f : Byte} (act : Nat → State → State × Reply) (s : State)
    (h : 15 < z.toNat ∨ 2 < f.toNat) : onLock [z, f] act s = answer .badReference s := if_pos h

theorem onLock_of_le {z f : Byte} (act : Nat → State → State × Reply) (s : State) (hz : z.toNat ≤ 15)
    (hf : f.toNat ≤ 2) : onLock [z, f] act s = act (3 * z.toNat + f.toNat) s :=
  if_neg (by omega : ¬(15 < z.toNat ∨ 2 < f.toNat))

section
variable {s : State} {p : Port} {i : Nat}

theorem State.releaseByOwner_of_empty (h : s.lock i = none) : s.releaseByOwner p i = taken [] s := by
  simp [State.releaseByOwner, h]

theorem State.releaseByOwner_of_owner {k : Lock} (h : s.lock i = some k) (ho : k.owner = p) :
    s.releaseByOwner p i = taken [] (s.setLock i none) := by simp [State.releaseByOwner, h, ho]

theorem State.releaseByOwner_of_other {k : Lock} (h : s.lock i = some k) (ho : k.owner ≠ p) :
    s.releaseByOwner p i = lockedBy k.owner s := by simp [State.releaseByOwner, h, ho]

theorem State.breakLock_of_empty (h : s.lock i = none) : s.breakLock i = taken [] s := by
  simp [State.breakLock, State.releaseLock, h]

theorem State.breakLock_of_full {k : Lock} (h : s.lock i = some k) :
    s.breakLock i =
      taken [] ((s.setLock i none).raises [(.overrideReleased, i, 5 + 256 * partyCode (some k.owner))]) := by
  simp [State.breakLock, State.releaseLock, h, State.raise_eq_raises]

end

end Sys2Proof.Machine
end

section
/-! The statements on CLAIM, on YIELD and DECLINE, and on OVERRIDE SET, OVERRIDE RELEASE and OVERRIDE BREAK. -/

namespace Sys2Proof.Machine

/-- Settles O15, by the row of the authority record that the claim finds. -/
theorem claimFollowsTheRecord : Obligations.ClaimFollowsTheRecord := by
  intro s p b h
  refine ⟨fun hb => exec_badLength (exec_claim s p b) h rfl (mt List.length_eq_zero_iff.mp hb), ?_⟩
  rintro rfl
  refine ⟨fun holder => ?_, fun unheld => ?_, fun holder unclaimed => ?_, fun stamp holder claimed => ?_⟩
  · exact exec_refused (exec_claim s p []) h rfl rfl (State.claimBody_of_holder (by simpa using holder))
  · have body := State.claimBody_of_unheld (s := s.framed p) (p := p) (by simpa using unheld)
    rw [State.framed_setHolder, unheld] at body
    exact exec_taken (exec_claim s p []) h rfl rfl body
  · exact exec_replies (exec_claim s p []) h rfl rfl (State.framed_claimBody_of_unclaimed holder unclaimed)
  · exact exec_refused (exec_claim s p []) h rfl rfl
      (State.claimBody_of_claim (by simpa using holder) (by simpa using claimed))

/-- Settles O16: both requests answer the claim by the same rows, and differ in what they do to a
claim that is there. -/
theorem yieldAndDeclineAnswerTheClaim : Obligations.YieldAndDeclineAnswerTheClaim := by
  intro s p b h
  refine ⟨fun hb => ?_, ?_, ?_, ?_⟩
  · have length : b.length ≠ 0 := mt List.length_eq_zero_iff.mp hb
    exact ⟨exec_badLength (exec_yield s p b) h rfl length, exec_badLength (exec_decline s p b) h rfl length⟩
  · rintro rfl notHolder
    have row := fun act => State.answerClaim_of_not_holder (s := s.framed p) act (by simpa using notHolder)
    exact ⟨exec_refused (exec_yield s p []) h rfl rfl (row _), exec_refused (exec_decline s p []) h rfl rfl (row _)⟩
  · rintro rfl holder unclaimed
    have row := fun act => State.answerClaim_of_unclaimed (s := s.framed p) act (by simpa using holder)
      (by simpa using unclaimed)
    exact ⟨exec_refused (exec_yield s p []) h rfl rfl (row _), exec_refused (exec_decline s p []) h rfl rfl (row _)⟩
  · rintro c rfl holder claimed
    have row := fun act => State.answerClaim_of_claim (s := s.framed p) act (by simpa using holder)
      (by simpa using claimed)
    constructor
    · rw [exec_taken (exec_yield s p []) h rfl rfl (row _), Claim.yieldTo, State.framed_setHolder, holder]
    · rw [exec_taken (exec_decline s p []) h rfl rfl (row _), Claim.declineBy, State.framed_clearClaim holder]

/-- Settles O18, by the first row of R166's table that meets the request. -/
theorem overrideSetPlacesTheLock : Obligations.OverrideSetPlacesTheLock := by
  intro s p b h
  refine ⟨exec_badLength (exec_overrideSet s p b) h rfl, ?_⟩
  rintro z f v eh el flag rfl i top expiry new
  refine ⟨fun bad => ?_, fun hz hf hflag => ?_⟩
  · exact exec_refused (exec_overrideSet s p _) h rfl rfl (State.overrideSetBody_of_bad bad)
  have range : ¬(15 < z.toNat ∨ 2 < f.toNat ∨ 1 < flag.toNat) := by omega
  refine ⟨fun disabled => ?_, fun enabled stopped => ?_,
    fun enabled running => ⟨fun k lock foreign => ?_, fun free => ?_⟩⟩
  · exact exec_refused (exec_overrideSet s p _) h rfl rfl
      (State.overrideSetBody_of_disabled range (by simpa using disabled))
  · exact exec_refused (exec_overrideSet s p _) h rfl rfl
      (State.overrideSetBody_of_stopped range (by simpa using enabled) (by simpa using stopped))
  · exact exec_replies (exec_overrideSet s p _) h rfl rfl
      (State.overrideSetBody_of_locked range (by simpa using enabled) (by simpa using running) (by simpa using lock)
        foreign)
  · have body := State.overrideSetBody_of_free (s := s.framed p) (p := p) (v := v) (eh := eh) (el := el) range
      (by simpa using enabled) (by simpa using running) (by simpa using free)
    rw [State.placeLock_eq _ _ _ _ _ _ hflag, State.framed_setLock, State.framed_newLock] at body
    exact exec_replies (exec_overrideSet s p _) h rfl rfl body

/-- Settles O19: both requests find the lock in the same way, and its state gives the row. -/
theorem releaseAndBreakEmptyTheLock : Obligations.ReleaseAndBreakEmptyTheLock := by
  intro s p b h
  have gate : s.authority.holder = some p → s.accessRefusal p .gated = none := State.accessRefusal_of_holder
  refine ⟨fun hb => ⟨exec_badLength (exec_overrideRelease s p b) h rfl hb,
      fun hp => exec_badLength (exec_overrideBreak s p b) h (gate hp) hb⟩,
    fun hp => exec_refused_by_class (exec_overrideBreak s p b) h (State.accessRefusal_of_not_holder hp), ?_⟩
  rintro z f rfl i
  refine ⟨fun bad => ?_, fun hz hf empty => ?_, fun k hz hf full => ?_⟩
  · exact ⟨exec_refused (exec_overrideRelease s p _) h rfl rfl (onLock_of_bad _ _ bad),
      fun hp => exec_refused (exec_overrideBreak s p _) h (gate hp) rfl (onLock_of_bad _ _ bad)⟩
  · have lock : (s.framed p).lock i = none := by simpa using empty
    exact ⟨exec_taken (exec_overrideRelease s p _) h rfl rfl
        ((onLock_of_le _ _ hz hf).trans (State.releaseByOwner_of_empty lock)),
      fun hp => exec_taken (exec_overrideBreak s p _) h (gate hp) rfl
        ((onLock_of_le _ _ hz hf).trans (State.breakLock_of_empty lock))⟩
  · have lock : (s.framed p).lock i = some k := by simpa using full
    rw [← State.framed_setLock]
    refine ⟨fun own => ?_, fun foreign => ?_, fun hp => ?_⟩
    · exact exec_taken (exec_overrideRelease s p _) h rfl rfl
        ((onLock_of_le _ _ hz hf).trans (State.releaseByOwner_of_owner lock own))
    · exact exec_replies (exec_overrideRelease s p _) h rfl rfl
        ((onLock_of_le _ _ hz hf).trans (State.releaseByOwner_of_other lock foreign))
    · exact exec_taken (exec_overrideBreak s p _) h (gate hp) rfl
        ((onLock_of_le _ _ hz hf).trans (State.breakLock_of_full lock))

end Sys2Proof.Machine
end

section
/-! SUPPORT. IDENT and STATUS (R180) and SNAPSHOT (R179): what a frame leaves of the values their replies carry, the
fixed bytes of IDENT, the exchange of the snapshot buffers, and the rows of SNAPSHOT's body. -/

namespace Sys2Proof.Machine

/-! ### What a frame leaves alone (R172) -/

section
variable (s : State) (p : Port)

@[simp] theorem State.framed_fire : (s.framed p).fire = s.fire := State.updPort_fire ..
@[simp] theorem State.framed_clock : (s.framed p).clock = s.clock := State.updPort_clock ..
@[simp] theorem State.framed_store : (s.framed p).store = s.store := State.updPort_store ..
@[simp] theorem State.framed_snaps : (s.framed p).snaps = s.snaps := State.updPort_snaps ..
@[simp] theorem State.framed_running : (s.framed p).running = s.running := by simp [State.running]
@[simp] theorem State.framed_channels : (s.framed p).channels = s.channels := State.updPort_channels ..
@[simp] theorem State.framed_outdoorReading : (s.framed p).outdoorReading = s.outdoorReading := by
  simp [State.outdoorReading, State.readable, State.chanCfg, State.chan]
@[simp] theorem State.framed_outdoorSubstituted : (s.framed p).outdoorSubstituted = s.outdoorSubstituted := by
  simp [State.outdoorSubstituted]
@[simp] theorem State.framed_lost (r : Port) : ((s.framed p).port r).lost = (s.port r).lost := by
  cases p <;> cases r <;> rfl
@[simp] theorem State.framed_supRate : (s.framed p).link.sup.rate = s.link.sup.rate := by cases p <;> rfl
@[simp] theorem State.framed_panRate : (s.framed p).link.pan.rate = s.link.pan.rate := by cases p <;> rfl

/-- A valid frame makes its own port ALIVE, and leaves the other as it was. -/
theorem State.framed_alive_iff (r : Port) :
    ((s.framed p).port r).alive = true ↔ p = r ∨ (s.port r).alive = true := by
  cases p <;> cases r <;> simp [State.framed, State.port, State.updPort]

end

theorem State.running_iff (s : State) : s.running = true ↔ s.runMode = .running := beq_iff_eq

theorem State.outdoorSubstituted_iff (s : State) : s.outdoorSubstituted = true ↔ s.outdoorReading = none :=
  Option.isNone_iff_eq_none

/-! ### IDENT and STATUS (R180) -/

theorem exec_ident (s : State) (p : Port) (b : List Byte) :
    exec (.ident p b) s = .next (s.serve p .ident b (withLength 0 b (taken identBytes))) := rfl

theorem exec_status (s : State) (p : Port) (b : List Byte) :
    exec (.status p b) s = .next (s.serve p .status b (withLength 0 b fun t => taken (t.statusBytes p) t)) := rfl

/-- The maker's name and the part number. -/
theorem textBytes_name :
    textBytes "HACOVIN" ++ textBytes "SC16" =
      [0x48, 0x41, 0x43, 0x4F, 0x56, 0x49, 0x4E, 0x53, 0x43, 0x31, 0x36] := by decide

/-- The capacity table, two bytes to an entry. -/
theorem capacityTable_bytes :
    capacityTable.flatMap u16 =
      [0, 16, 0, 48, 0, 64, 0, 24, 0, 40, 0, 16, 0, 16, 0, 192, 2, 160, 0, 4, 0, 48, 0, 24, 2, 40, 0, 180] := by decide

theorem identBytes_eq :
    identBytes =
      [0x48, 0x41, 0x43, 0x4F, 0x56, 0x49, 0x4E, 0x53, 0x43, 0x31, 0x36] ++ [Config.siliconRevision] ++
        [0, 16, 0, 48, 0, 64, 0, 24, 0, 40, 0, 16, 0, 16, 0, 192, 2, 160, 0, 4, 0, 48, 0, 24, 2, 40, 0, 180] := by
  rw [identBytes, textBytes_name, capacityTable_bytes]

/-- STATUS to the port whose frame was just taken: that port shows ALIVE, and everything else what the frame found. -/
theorem State.framed_statusBytes (s : State) (p : Port) :
    (s.framed p).statusBytes p =
      [if s.runMode = .running then 1 else 0, if s.fire = true then 1 else 0,
       BitVec.ofNat 8 (partyCode s.authority.holder),
       BitVec.ofNat 8 (partyCode (s.authority.claim.map Claim.claimant)),
       if p = .supervisor ∨ s.link.sup.alive = true then 1 else 0, BitVec.ofNat 8 s.link.sup.rate.code,
       if p = .panel ∨ s.link.pan.alive = true then 1 else 0, BitVec.ofNat 8 s.link.pan.rate.code,
       if s.clock.valid = true then 1 else 0, if s.store.saving ≠ none then 1 else 0,
       BitVec.ofNat 8 (s.port p).lost, if s.outdoorReading = none then 1 else 0,
       if s.store.loaded = true then 1 else 0] := by
  have supervisor : (s.framed p).link.sup.alive = true ↔ p = .supervisor ∨ s.link.sup.alive = true :=
    s.framed_alive_iff p .supervisor
  have panel : (s.framed p).link.pan.alive = true ↔ p = .panel ∨ s.link.pan.alive = true := s.framed_alive_iff p .panel
  have saving : s.store.saving.isSome = true ↔ s.store.saving ≠ none := Option.isSome_iff_ne_none
  rw [State.statusBytes, yesNo_eq_ite supervisor, yesNo_eq_ite panel, State.framed_running,
    yesNo_eq_ite s.running_iff, State.framed_store, yesNo_eq_ite saving, State.framed_outdoorSubstituted,
    yesNo_eq_ite s.outdoorSubstituted_iff, State.framed_fire, State.framed_authority, State.framed_clock,
    State.framed_supRate, State.framed_panRate, State.framed_lost]
  rfl

/-! ### The snapshot buffers (R178, R179) -/

section
variable {b : Snapshots} {p : Port} {n : Snapshot}

/-- NEWEST goes to the port at a higher count than the HELD buffer's, and to an empty HELD buffer. -/
theorem Snapshots.newer_iff :
    b.newer p = true ↔ ∃ n, b.newest = some n ∧ ∀ x ∈ b.held p, x.count < n.count := by
  cases newest : b.newest <;> cases held : b.held p <;> simp [Snapshots.newer, newest, held]

theorem Snapshots.newer_of_newest_empty (h : b.newest = none) : b.newer p = false :=
  Bool.eq_false_iff.mpr fun newer => by
    obtain ⟨n, newest, -⟩ := newer_iff.mp newer
    simp [h] at newest

theorem Snapshots.newer_of_le {x : Snapshot} (hx : b.held p = some x) (h : ∀ n ∈ b.newest, n.count ≤ x.count) :
    b.newer p = false :=
  Bool.eq_false_iff.mpr fun newer => by
    obtain ⟨n, newest, higher⟩ := newer_iff.mp newer
    exact absurd (higher x hx) (Nat.not_lt.mpr (h n newest))

/-- After the exchange the port holds what was NEWEST. -/
@[simp] theorem Snapshots.held_exchange (b : Snapshots) (p : Port) : (b.exchange p).held p = b.newest := by
  cases p <;> rfl

theorem Snapshots.exchange_supervisor (h : b.newest = some n) :
    b.exchange .supervisor = { b with newest := b.heldSup, heldSup := some n } := by rw [← h]; rfl

theorem Snapshots.exchange_panel (h : b.newest = some n) :
    b.exchange .panel = { b with newest := b.heldPan, heldPan := some n } := by rw [← h]; rfl

end

/-! ### SNAPSHOT (R179) -/

theorem exec_snapshot (s : State) (p : Port) (b : List Byte) :
    exec (.snapshot p b) s = .next (s.serve p .snapshot b (withLength 1 b (State.snapshotBody p b))) := rfl

section
variable {s : State} {p : Port}

theorem State.pageReply_of_empty (k : Nat) (new : Bool) (h : s.snaps.held p = none) :
    s.pageReply p k new = answer .noData s := by rw [State.pageReply, h]

theorem State.pageReply_of_held {x : Snapshot} (k : Nat) (new : Bool) (h : s.snaps.held p = some x) :
    s.pageReply p k new = taken (u8 k ++ u32 x.count ++ yesNo new ++ x.page k) s := by rw [State.pageReply, h]

theorem State.snapshotBody_of_gt {k : Byte} (h : 3 < k.toNat) :
    State.snapshotBody p [k] s = answer .badReference s := if_pos h

/-- Pages 1 to 3, and page 0 with no newer NEWEST, come from the HELD buffer as it stands. -/
theorem State.snapshotBody_of_same {k : Byte} (hk : k.toNat ≤ 3) (h : 0 < k.toNat ∨ s.snaps.newer p = false) :
    State.snapshotBody p [k] s = s.pageReply p k.toNat false := by
  have stays : ¬(k.toNat = 0 ∧ s.snaps.newer p = true) := by
    rintro ⟨zero, newer⟩
    simp [zero, newer] at h
  exact (if_neg (Nat.not_lt.mpr hk)).trans (if_neg stays)

/-- Page 0 with a newer NEWEST comes from the HELD buffer after the exchange. -/
theorem State.snapshotBody_of_newer (h : s.snaps.newer p = true) :
    State.snapshotBody p [0] s = ({ s with snaps := s.snaps.exchange p } : State).pageReply p 0 true := by
  simp [State.snapshotBody, rd8, h]

end

end Sys2Proof.Machine
end

section
/-! The statements on IDENT and STATUS, and on SNAPSHOT. -/

namespace Sys2Proof.Machine

/-- Settles O10: the length is the only check, and each reply the model's fields written out byte by byte. -/
theorem identAndStatusReportThePart : Obligations.IdentAndStatusReportThePart := by
  intro s p b h
  refine ⟨fun hb => ?_, ?_⟩
  · have length : b.length ≠ 0 := mt List.length_eq_zero_iff.mp hb
    exact ⟨exec_badLength (exec_ident s p b) h rfl length, exec_badLength (exec_status s p b) h rfl length⟩
  · rintro rfl
    constructor
    · rw [← identBytes_eq]
      exact exec_taken (exec_ident s p []) h rfl rfl rfl
    · rw [← State.framed_statusBytes]
      exact exec_taken (exec_status s p []) h rfl rfl rfl

/-- SNAPSHOT of a page that comes from the HELD buffer as it stands (R179). -/
theorem exec_snapshot_of_same {s : State} {p : Port} {k : Byte} {x : Snapshot} (h : s.takes p [k])
    (hk : k.toNat ≤ 3) (held : s.snaps.held p = some x) (same : 0 < k.toNat ∨ s.snaps.newer p = false) :
    exec (.snapshot p [k]) s =
      s.replies p .snapshot .ok (k :: u32 x.count ++ 0 :: (x.bytes.drop (180 * k.toNat)).take 180) (s.framed p) := by
  have body := (State.snapshotBody_of_same (s := s.framed p) hk (by simpa using same)).trans
    (State.pageReply_of_held k.toNat false (by simpa using held))
  rw [u8_toNat, List.append_assoc _ (yesNo false)] at body
  exact exec_taken (exec_snapshot s p [k]) h rfl rfl body

/-- SNAPSHOT of page 0 with a newer NEWEST, which goes to the sender (R179). -/
theorem exec_snapshot_of_newer {s : State} {p : Port} {n : Snapshot} (h : s.takes p [0])
    (newest : s.snaps.newest = some n) (newer : ∀ x ∈ s.snaps.held p, x.count < n.count) :
    exec (.snapshot p [0]) s =
      s.replies p .snapshot .ok (0 :: u32 n.count ++ 1 :: n.bytes.take 180)
        { s.framed p with snaps := s.snaps.exchange p } := by
  have goes : (s.framed p).snaps.newer p = true :=
    Snapshots.newer_iff.mpr ⟨n, by simpa using newest, by simpa using newer⟩
  have body := (State.snapshotBody_of_newer goes).trans
    (State.pageReply_of_held (x := n) 0 true (by simpa using newest))
  rw [State.framed_snaps, List.append_assoc _ (yesNo true)] at body
  exact exec_taken (exec_snapshot s p [0]) h rfl rfl body

/-- Settles O12: the page's number and whether NEWEST is newer than the HELD buffer choose the row. -/
theorem snapshotGivesPagesOfTheHeldBuffer : Obligations.SnapshotGivesPagesOfTheHeldBuffer := by
  intro s p b h
  refine ⟨exec_badLength (exec_snapshot s p b) h rfl, ?_⟩
  rintro k rfl
  refine ⟨fun bad => ?_, fun hk same empty => ?_, fun x hk held same => ?_, ?_⟩
  · exact exec_refused (exec_snapshot s p [k]) h rfl rfl (State.snapshotBody_of_gt bad)
  · have stays : 0 < k.toNat ∨ s.snaps.newer p = false := same.imp_right Snapshots.newer_of_newest_empty
    exact exec_refused (exec_snapshot s p [k]) h rfl rfl
      ((State.snapshotBody_of_same hk (by simpa using stays)).trans
        (State.pageReply_of_empty _ _ (by simpa using empty)))
  · exact exec_snapshot_of_same h hk held (same.imp_right (Snapshots.newer_of_le held))
  · rintro n rfl newest newer
    rw [exec_snapshot_of_newer h newest newer]
    cases p with
    | supervisor => rw [Snapshots.exchange_supervisor newest]
    | panel => rw [Snapshots.exchange_panel newest]

end Sys2Proof.Machine
end
